-- ==== Sys2Proof/Word.lean ====
section
/-! DEFINITION. The word types of OWM. Nothing here is specific to one instruction. -/

namespace Sys2Proof

/-- Eight bits: an instruction code, a field byte of the ROM record, the encoder's mask (R23, R94). -/
abbrev Byte := BitVec 8

/-- Sixteen bits: the temperature registers and `rsp_data` (R23, R43). -/
abbrev Half := BitVec 16

end Sys2Proof
end

