-- ==== Sys2Proof/Config.lean ====
section
/-! DEFINITION. What is fixed for a run: the instruction code parameters (R9, R99), the counts DOC states (R9), and the
two free values the spec leaves to the environment (U8, U9). -/

namespace Sys2Proof

/-- The nine parameters `OPC_*` of R99, a launch constant (R306).  No rule fixes their values (D14, U5); R101 asks that
the three issued codes be distinct. -/
structure Config where
  opcReadRom         : Byte
  opcMatchRom        : Byte
  opcSkipRom         : Byte
  opcAlarmSearch     : Byte
  opcConvertT        : Byte
  opcWriteScratchpad : Byte
  opcReadScratchpad  : Byte
  opcCopyScratchpad  : Byte
  opcReadPowerSupply : Byte
  deriving DecidableEq, Repr

/-- The default values of R99.  PRESUMED (log entry 4): the spec marks them as general knowledge (G1). -/
def Config.standard : Config where
  opcReadRom         := 0x33#8
  opcMatchRom        := 0x55#8
  opcSkipRom         := 0xCC#8
  opcAlarmSearch     := 0xEC#8
  opcConvertT        := 0x44#8
  opcWriteScratchpad := 0x4E#8
  opcReadScratchpad  := 0xBE#8
  opcCopyScratchpad  := 0x48#8
  opcReadPowerSupply := 0xB4#8

/-- `PD_MAX_LOW`: the presence machine errs on the sixth consecutive low sample (R9, R129). -/
def pdMaxLow : BitVec 3 := 5#3

/-- The index of a field byte's last bit: `ROM_FAMILY_BITS` and `ROM_CRC_BITS` are 8, and so is a serial byte (R9). -/
def lastBit : BitVec 3 := 7#3

/-- The index of the last serial byte: `ROM_SERIAL_BITS` is 48, as 6 bytes (R9). -/
def lastSerialByte : BitVec 3 := 5#3

/-- `SP_BITS`: the scratchpad bits collected before the terminating reset (R9, R187, U16). -/
def spBits : BitVec 4 := 15#4

/-- `TEMP_SHIFT` (R9, R235). -/
def tempShift : Nat := 4

/-- FREE VALUE (U8, log entry 3): the level of the `n`-th line sample that no listed sample supplies.  It has no body, so
nothing can be proved of it. -/
opaque Config.lineLevel : Nat → Bool

/-- FREE VALUE (U9, D17, log entry 6): whether the `n`-th TICK that arrives together with a host command is taken before
the command. -/
opaque Config.tickFirst : Nat → Bool

end Sys2Proof
end

