-- ==== Sys2Proof/Machine/State.lean ====
section
/-! DEFINITION. The state of OWM as plain data, the state right after reset, and the reasons a step can stop. -/

namespace Sys2Proof.Machine

/-- `pd_state` (R27).  TERMINAL is left in the step that enters it; `reserved` is value 3. -/
inductive PdState where
  | waitLow
  | countLow
  | terminal
  | reserved
  deriving DecidableEq, Repr

/-- `txn_state` (R30). -/
inductive TxnState where
  | writing
  | reading
  deriving DecidableEq, Repr

/-- `rom_phase` (R31); `reserved` is value 3. -/
inductive RomPhase where
  | family
  | serial
  | crc
  | reserved
  deriving DecidableEq, Repr

/-- `seq_state` (R38); `invalid` is value 3, DOC's "Default/unreachable state". -/
inductive SeqState where
  | masterReset
  | masterReadRom
  | masterTxFnCommand
  | invalid
  deriving DecidableEq, Repr

/-- The three statuses (R96); value 3 is never produced and is excluded by type (R102). -/
inductive Status where
  | pending
  | finished
  | error
  deriving DecidableEq, Repr

/-- The causes (R97). -/
inductive Cause where
  | none
  | presenceTimeout
  | invalidState
  | unsupportedReply
  deriving DecidableEq, Repr

/-- The slot a command performed, `rsp_slot` (R92); the reserved codes are excluded by type (R102). -/
inductive SlotCode where
  | none
  | w0
  | w1
  | rd
  | rst
  deriving DecidableEq, Repr

/-- One event of the bus trace (R67). -/
inductive BusEvent where
  | w0
  | w1
  | rd (b : Bool)
  | rst
  deriving DecidableEq, Repr

/-- The response of a host command (R43, R91). -/
structure Response where
  status : Status
  cause  : Cause
  slot   : SlotCode
  sample : Bool
  data   : Half
  deriving DecidableEq, Repr

/-- One input waiting for OWM.  `ports` is one arrival at the ports of R40 and R41: the tick strobe, and a host command when
`host_valid` is 1.  `slot` and `code` call one primitive, or one step of the transaction layer, on its own (U3, R263); they
are not ports of the block (log entry 1). -/
inductive Input where
  | ports (tick : Bool) (host : Option (BitVec 2))
  | slot  (code : BitVec 3)
  | code  (opc : Byte)
  deriving DecidableEq, Repr

/-- The state: the registers of R23 in its order, the line output, the marks of R50, the configuration, the observations, and
the environment's data a run is paired with. -/
@[ext]
structure State where
  /-- `tick_flag` (R24). -/
  tickFlag      : Bool
  /-- `suspend` (R25). -/
  suspend       : Bool
  /-- `pd_state` (R27). -/
  pdState       : PdState
  /-- `pd_count` (R28). -/
  pdCount       : BitVec 3
  /-- `enc_mask` (R29). -/
  encMask       : Byte
  /-- `txn_state` (R30). -/
  txnState      : TxnState
  /-- `rom_phase` (R31). -/
  romPhase      : RomPhase
  /-- `rom_bit` (R32). -/
  romBit        : BitVec 3
  /-- `rom_byte` (R33). -/
  romByte       : BitVec 3
  /-- `rom_family` (R34). -/
  romFamily     : Byte
  /-- `rom_serial[0..5]` (R34). -/
  romSerial     : Vector Byte 6
  /-- `rom_crc` (R34). -/
  romCrc        : Byte
  /-- `temp_acc` (R35). -/
  tempAcc       : Half
  /-- `temp_out` (R36). -/
  tempOut       : Half
  /-- `family_out` (R36). -/
  familyOut     : Byte
  /-- `sp_idx` (R37). -/
  spIdx         : BitVec 4
  /-- `seq_state` (R38). -/
  seqState      : SeqState
  /-- `reset_issued` (R39). -/
  resetIssued   : Bool
  /-- `conv_triggered` (R39). -/
  convTriggered : Bool
  /-- `ow_drive_low`, the line output (R42). -/
  owDriveLow    : Bool
  /-- The mark `initialised` (R50, R291). -/
  initialised   : Bool
  /-- The mark `refused` (R50). -/
  refused       : Bool
  /-- The fault mark (R50). -/
  faulted       : Bool
  /-- The instruction codes, a launch constant (R99, R306). -/
  cfg           : Config
  /-- The bus trace, oldest first (R67). -/
  busTrace      : List BusEvent
  /-- The responses given so far, oldest first (R43, R294). -/
  responses     : List Response
  /-- The listed prefix of the line oracle, next sample first (R66, R105). -/
  samples       : List Bool
  /-- MODEL'S OWN: how many samples were taken from `Config.lineLevel` (log entry 3). -/
  lineDraws     : Nat
  /-- The rest of the script: inputs not yet taken, next first (R105). -/
  pending       : List Input
  /-- MODEL'S OWN: how many orderings were taken from `Config.tickFirst` (log entry 6). -/
  orderDraws    : Nat
  deriving DecidableEq, Repr

/-- The launch state: the state after INIT with the premises of R292. -/
def State.reset : State where
  tickFlag      := false
  suspend       := false
  pdState       := .waitLow
  pdCount       := 0#3
  encMask       := 0x01#8
  txnState      := .writing
  romPhase      := .family
  romBit        := 0#3
  romByte       := 0#3
  romFamily     := 0x00#8
  romSerial     := Vector.replicate 6 0x00#8
  romCrc        := 0x00#8
  tempAcc       := 0x0000#16
  tempOut       := 0x0000#16
  familyOut     := 0x00#8
  spIdx         := 0#4
  seqState      := .masterReset
  resetIssued   := false
  convTriggered := false
  owDriveLow    := false
  initialised   := true
  refused       := false
  faulted       := false
  cfg           := Config.standard
  busTrace      := []
  responses     := []
  samples       := []
  lineDraws     := 0
  pending       := []
  orderDraws    := 0

/-- Why the model gives an event no next state.  All are safe: the spec asks for each (R123, R190, U1), and a run stops
where the spec gives no value. -/
inductive Fault where
  /-- A primitive was called with `tick_flag = 0` (R123).  Raised by W0, W1, RD and RST.  Safe. -/
  | noTick
  /-- `pd_state` holds TERMINAL or 3 when the presence step runs (R190, U1).  Raised by STEP.  Safe. -/
  | pdStateReserved
  /-- `pd_count` holds 6 or 7 when the presence step runs (U1).  Raised by STEP.  Safe. -/
  | pdCountOutOfRange
  /-- `enc_mask` is not one-hot when the encoder runs (R190, U1).  Raised by STEP and the nine codes.  Safe. -/
  | encMaskNotOneHot
  /-- `rom_phase` holds 3 when the ROM builder runs (R190, U1).  Raised by STEP and READ_ROM.  Safe. -/
  | romPhaseReserved
  /-- `rom_byte` holds 6 or 7 when the ROM builder runs (U1).  Raised by STEP and READ_ROM.  Safe. -/
  | romByteOutOfRange
  /-- The state carries a recorded fault, which is never cleared (R50).  Raised by the step itself.  Safe. -/
  | faultRecorded
  deriving DecidableEq, Repr

/-- Why the model has no meaning for an event. -/
inductive Refusal where
  /-- The instruction has no meaning yet.  Raised by the dispatch only.  Safe. -/
  | notModelled (mnemonic : String)
  /-- An event other than INIT before the first INIT (R291).  Raised by every instruction but INIT.  Safe. -/
  | notInitialised
  /-- The configuration violates R101.  Raised by the step itself.  Safe. -/
  | badConfiguration
  /-- The state carries a recorded refusal, which is never cleared (R50).  Raised by the step itself.  Safe. -/
  | refusalRecorded
  /-- A code byte outside the nine (R161, U3).  Raised by the step when it reads the byte.  Safe. -/
  | unknownCode (opc : Byte)
  /-- A slot code that names no primitive: 000, or the reserved 101, 110, 111 (R92, R102).  Raised by the step when it reads
  the code.  Safe. -/
  | noSuchSlot (code : BitVec 3)
  deriving DecidableEq, Repr

end Sys2Proof.Machine
end

