-- ==== Sys2Proof/Machine/Flags.lean ====
section
/-! DEFINITION. The four flags of R12 (`tick_flag`, `suspend`, `reset_issued`, `conv_triggered`): every write of one goes
through an operation of this file.  OWM has no arithmetic condition codes (R26). -/

namespace Sys2Proof.Machine

/-- `tick_flag <- 1`, by TICK only (R24, R120). -/
def setTick (s : State) : State := { s with tickFlag := true }

/-- `tick_flag <- 0`, the last action of each primitive (R24). -/
def clearTick (s : State) : State := { s with tickFlag := false }

/-- `suspend <- v`, by RST only (R25, C1). -/
def setSuspend (v : Bool) (s : State) : State := { s with suspend := v }

/-- `reset_issued <- 1`, when the sequencer issues its reset pulse (R39, R232). -/
def markResetIssued (s : State) : State := { s with resetIssued := true }

/-- The conversion trigger has completed: `conv_triggered <- 1` and `reset_issued <- 0` (R39, R234). -/
def markConvTriggered (s : State) : State := { s with convTriggered := true, resetIssued := false }

/-- `reset_issued <- 0` and `conv_triggered <- 0`, at FINISHED and on a presence error (R39, R235, R261). -/
def clearCycleFlags (s : State) : State := { s with resetIssued := false, convTriggered := false }

end Sys2Proof.Machine
end

