-- ==== Sys2Proof/Machine/Operands.lean ====
section
/-! DEFINITION. The operand forms: the masked opcode bit of the encoder (R95), the bit insertions of the two reply builders
(R181, R186), the code the sequencer selects (R231), the temperature's shift (R235), and the numbers of the enumerations. -/

namespace Sys2Proof.Machine

/-- A sampled bit as an 8-bit number, `zext_8(b)` (R10). -/
def bit8 (b : Bool) : Byte := if b then 1#8 else 0#8

/-- A sampled bit as a 16-bit number, `zext_16(b)` (R10). -/
def bit16 (b : Bool) : Half := if b then 1#16 else 0#16

/-- `(opc & enc_mask) != 0` (R95). -/
def maskedBit (opc mask : Byte) : Bool := (opc &&& mask) != 0#8

/-- The legal values of `enc_mask`: 0x01, 0x02, 0x04 and so on to 0x80 (R23). -/
def isOneHot (m : Byte) : Bool := m != 0#8 && (m &&& (m - 1#8)) == 0#8

/-- `SetBit(field, idx, b)`: bit 0 replaces the byte, a later bit is ORed into it (R181, D9). -/
def setBit (field : Byte) (idx : BitVec 3) (b : Bool) : Byte :=
  (if idx = 0#3 then 0x00#8 else field) ||| (bit8 b <<< idx.toNat)

/-- The accumulator's write of one scratchpad bit, with the clear at index 0 (R186, D9). -/
def setTempBit (acc : Half) (idx : BitVec 4) (b : Bool) : Half :=
  (if idx = 0#4 then 0x0000#16 else acc) ||| (bit16 b <<< idx.toNat)

/-- `asr_16(v, TEMP_SHIFT)`: an arithmetic shift of a two's complement value (R235, D20). -/
def scaleTemp (v : Half) : Half := v.sshiftRight tempShift

/-- `rom_serial[k] <- SetBit(rom_serial[k], idx, b)` (R183).  An index outside 0..5 is a fault before this runs (U1). -/
def setSerialBit (serial : Vector Byte 6) (k : BitVec 3) (idx : BitVec 3) (b : Bool) : Vector Byte 6 :=
  if h : k.toNat < 6 then serial.set k.toNat (setBit serial[k.toNat] idx b) else serial

/-- `SelOpc`: the code a STEP passes to the transaction, a function of the state alone (R231).  MASTER_RESET and the invalid
state pass none. -/
def selOpc (s : State) : Option Byte :=
  match s.seqState with
  | .masterReset       => none
  | .masterReadRom     => some s.cfg.opcReadRom
  | .masterTxFnCommand => some (if s.convTriggered then s.cfg.opcReadScratchpad else s.cfg.opcConvertT)
  | .invalid           => none

/-- The number of `rsp_status` (R96). -/
def statusCode : Status → BitVec 2
  | .pending  => 0#2
  | .finished => 1#2
  | .error    => 2#2

/-- The number of `rsp_cause` (R97). -/
def causeCode : Cause → BitVec 2
  | .none             => 0#2
  | .presenceTimeout  => 1#2
  | .invalidState     => 2#2
  | .unsupportedReply => 3#2

/-- The number of `rsp_slot` (R92). -/
def slotCode : SlotCode → BitVec 3
  | .none => 0b000#3
  | .w0   => 0b001#3
  | .w1   => 0b010#3
  | .rd   => 0b011#3
  | .rst  => 0b100#3

/-- The number of `pd_state` (R27). -/
def pdStateCode : PdState → BitVec 2
  | .waitLow  => 0#2
  | .countLow => 1#2
  | .terminal => 2#2
  | .reserved => 3#2

/-- The number of `txn_state` (R30). -/
def txnStateCode : TxnState → BitVec 1
  | .writing => 0#1
  | .reading => 1#1

/-- The number of `rom_phase` (R31). -/
def romPhaseCode : RomPhase → BitVec 2
  | .family   => 0#2
  | .serial   => 1#2
  | .crc      => 2#2
  | .reserved => 3#2

/-- The number of `seq_state` (R38). -/
def seqStateCode : SeqState → BitVec 2
  | .masterReset       => 0#2
  | .masterReadRom     => 1#2
  | .masterTxFnCommand => 2#2
  | .invalid           => 3#2

end Sys2Proof.Machine
end

