-- ==== Sys2Proof/Machine/Ops.lean ====
section
/-! DEFINITION. The named operations over the state: the line port, the bus trace, the line oracle, responses, the check of
R291, the control part of a reset, and raising an error with its recovery, once for all causes (R260 to R263). -/

namespace Sys2Proof.Machine

/-- `Drive(low)` (R11, R42). -/
def driveLow (s : State) : State := { s with owDriveLow := true }

/-- `Release()` (R11, R42). -/
def release (s : State) : State := { s with owDriveLow := false }

/-- `Emit(ev)`: appends one event to the bus trace (R11, R67). -/
def emit (ev : BusEvent) (s : State) : State := { s with busTrace := s.busTrace ++ [ev] }

/-- The level `Sample()` returns: the next listed sample, or a free value where none is listed (R66, U8, log entry 3). -/
def lineLevel (s : State) : Bool :=
  match s.samples with
  | b :: _ => b
  | []     => Config.lineLevel s.lineDraws

/-- The oracle after one `Sample()` (R66). -/
def nextSample (s : State) : State :=
  { s with samples := s.samples.tail, lineDraws := if s.samples.isEmpty then s.lineDraws + 1 else s.lineDraws }

/-- A command returns its response (R43). -/
def respond (r : Response) (s : State) : State := { s with responses := s.responses ++ [r] }

/-- Events other than INIT are refused before the first INIT (R291, R50). -/
def whenInitialised (s : State) (k : Host.Outcome State Fault Refusal) : Host.Outcome State Fault Refusal :=
  if s.initialised then k else .refused .notInitialised

/-- The control point at its reset value, and `suspend` with it: the recovery of INVALID_STATE (R262), which is also the
control part of INIT (R290). -/
def resetControl (s : State) : State :=
  { s with
    seqState := .masterReset, resetIssued := false, convTriggered := false
    txnState := .writing, encMask := 0x01#8
    pdState := .waitLow, pdCount := 0#3
    romPhase := .family, romBit := 0#3, romByte := 0#3
    spIdx := 0#4, suspend := false }

/-- The data part of INIT: `tick_flag`, the ROM record, the accumulator, the published values and the line output at their
reset values, and the mark `initialised` (R290). -/
def resetData (s : State) : State :=
  { s with
    tickFlag := false
    romFamily := 0x00#8, romSerial := Vector.replicate 6 0x00#8, romCrc := 0x00#8
    tempAcc := 0x0000#16, tempOut := 0x0000#16, familyOut := 0x00#8
    owDriveLow := false, initialised := true }

/-- The recovery action of a cause (R261, R262).  The transaction layer has already returned to WRITING when it reports an
unsupported reply, so that cause leaves nothing to recover (R211, R263). -/
def recover (c : Cause) (s : State) : State :=
  match c with
  | .none             => s
  | .presenceTimeout  => clearCycleFlags s
  | .invalidState     => resetControl s
  | .unsupportedReply => s

/-- `raise ERROR(cause)`: the recovery of the cause, then the response with status ERROR (R11, R260).  Nothing is saved and
control goes nowhere (R268); there is no return (R269). -/
def raiseError (c : Cause) (slot : SlotCode) (sample : Bool) (s : State) : State :=
  respond { status := .error, cause := c, slot := slot, sample := sample, data := 0#16 } (recover c s)

/-- A command that ends without an error returns its status with cause NONE (R97). -/
def respondOk (st : Status) (slot : SlotCode) (sample : Bool) (data : Half) (s : State) : State :=
  respond { status := st, cause := .none, slot := slot, sample := sample, data := data } s

/-- The outcome of an event whose work may fault. -/
def outcomeOf (r : Except Fault State) : Host.Outcome State Fault Refusal :=
  match r with
  | .ok s    => .next s
  | .error f => .fault f

/-- The state a run keeps after an outcome: a fault or a refusal is recorded in the marks, which nothing clears (R50, R291). -/
def recordOutcome (s : State) (o : Host.Outcome State Fault Refusal) : State :=
  match o with
  | .next t    => t
  | .fault _   => { s with faulted := true }
  | .refused _ => { s with refused := true }

end Sys2Proof.Machine
end

