-- ==== Sys2Proof/Machine/Slot.lean ====
section
/-! DEFINITION. The bit-level layer: the four slot primitives with their common contract (R122, R123, R125 to R128), the
presence step (R129), and the meanings of the SLOT_OP3 rows. -/

namespace Sys2Proof.Machine

/-- What a primitive hands back to the sub-machine that called it: the state, its slot code and the sampled bit, 0 for a
primitive that samples nothing (R43). -/
structure SlotDone where
  state  : State
  slot   : SlotCode
  sample : Bool
  deriving DecidableEq, Repr

/-- What a sub-machine hands back: a primitive's result with a status (R11, R96). -/
structure SubDone where
  state  : State
  status : Status
  slot   : SlotCode
  sample : Bool
  deriving DecidableEq, Repr

/-- A primitive requires `tick_flag = 1` on entry and faults without it (R122, R123). -/
def withTick (s : State) (d : SlotDone) : Except Fault SlotDone :=
  if s.tickFlag then .ok d else .error .noTick

/-- W0, write-zero: the state its slot leaves (R125). -/
def doneW0 (s : State) : State := emit .w0 (clearTick (release (driveLow s)))

/-- W1, write-one: the state its slot leaves (R126). -/
def doneW1 (s : State) : State := emit .w1 (clearTick (release (driveLow s)))

/-- RD, read-bit: drive low, release, sample (R127). -/
def doneRd (s : State) : State := emit (.rd (lineLevel s)) (clearTick (nextSample (release (driveLow s))))

/-- RST, reset-pulse: `suspend` is 1 while the line is held low, and 0 again after it (R128, C1, C13). -/
def doneRst (s : State) : State := emit .rst (clearTick (setSuspend false (release (driveLow (setSuspend true s)))))

/-- W0 (R125). -/
def slotW0 (s : State) : Except Fault SlotDone := withTick s { state := doneW0 s, slot := .w0, sample := false }

/-- W1 (R126). -/
def slotW1 (s : State) : Except Fault SlotDone := withTick s { state := doneW1 s, slot := .w1, sample := false }

/-- RD (R127). -/
def slotRd (s : State) : Except Fault SlotDone := withTick s { state := doneRd s, slot := .rd, sample := lineLevel s }

/-- RST (R128). -/
def slotRst (s : State) : Except Fault SlotDone := withTick s { state := doneRst s, slot := .rst, sample := false }

/-- A sub-machine's own update after its primitive, in the same STEP (R123). -/
def afterSlot (r : Except Fault SlotDone) (upd : Bool → State → Status × State) : Except Fault SubDone :=
  match r with
  | .error f => .error f
  | .ok d =>
    let (st, s') := upd d.sample d.state
    .ok { state := s', status := st, slot := d.slot, sample := d.sample }

/-- The presence machine passes through TERMINAL and is back in WAIT_LOW with count 0 in the same step (R27, R129, D12). -/
def presenceReport (s : State) : State :=
  let atTerminal := { s with pdState := .terminal }
  { atTerminal with pdCount := 0#3, pdState := .waitLow }

/-- The presence machine's update on one sample (R129). -/
def presenceUpdate (b : Bool) (s : State) : Status × State :=
  if b = false then
    if s.pdCount = pdMaxLow then (.error, presenceReport s)
    else (.pending, { s with pdCount := s.pdCount + 1, pdState := .countLow })
  else if s.pdState = .countLow then (.finished, presenceReport s)
  else (.pending, s)

/-- A reserved value in the presence machine's registers (R190, U1). -/
def presenceFault (s : State) : Option Fault :=
  if s.pdState = .terminal ∨ s.pdState = .reserved then some .pdStateReserved
  else if s.pdCount > pdMaxLow then some .pdCountOutOfRange
  else none

/-- PresenceStep (R129). -/
def presenceStep (s : State) : Except Fault SubDone :=
  match presenceFault s with
  | some f => .error f
  | none   => afterSlot (slotRd s) presenceUpdate

/-- A primitive as an event of its own: no status, so no response (R125 to R128; log entry 1). -/
def runSlot (prim : State → Except Fault SlotDone) (s : State) : Host.Outcome State Fault Refusal :=
  whenInitialised s <|
    match prim s with
    | .ok d    => .next d.state
    | .error f => .fault f

/-- W0 (R125). -/
def execW0 (s : State) : Host.Outcome State Fault Refusal := runSlot slotW0 s

/-- W1 (R126). -/
def execW1 (s : State) : Host.Outcome State Fault Refusal := runSlot slotW1 s

/-- RD (R127): the sampled bit is in the bus trace. -/
def execRd (s : State) : Host.Outcome State Fault Refusal := runSlot slotRd s

/-- RST (R128). -/
def execRst (s : State) : Host.Outcome State Fault Refusal := runSlot slotRst s

end Sys2Proof.Machine
end

