-- ==== Sys2Proof/Machine/Codec.lean ====
section
/-! DEFINITION. The instruction codec: the serializer (R150), the ROM field builder (R181 to R184), the temperature
accumulator (R186, R187), the reply without a decoder (R189) and the dispatch among them (R180). -/

namespace Sys2Proof.Machine

/-- The encoder's update after its slot: the mask shifts left, and wraps after the 8th bit (R150). -/
def encUpdate (s : State) : Status × State :=
  if s.encMask = 0x80#8 then (.finished, { s with encMask := 0x01#8 })
  else (.pending, { s with encMask := s.encMask <<< 1 })

/-- EncStep (R150).  A mask that is not one-hot is a fault (R190). -/
def encStep (opc : Byte) (s : State) : Except Fault SubDone :=
  if isOneHot s.encMask then
    afterSlot (if maskedBit opc s.encMask then slotW1 s else slotW0 s) (fun _ t => encUpdate t)
  else .error .encMaskNotOneHot

/-- RomStep, phase FAMILY (R182). -/
def romFamilyUpdate (b : Bool) (s : State) : Status × State :=
  let stored := { s with romFamily := setBit s.romFamily s.romBit b }
  if s.romBit = lastBit then (.pending, { stored with romBit := 0#3, romPhase := .serial })
  else (.pending, { stored with romBit := s.romBit + 1 })

/-- RomStep, phase SERIAL (R183). -/
def romSerialUpdate (b : Bool) (s : State) : Status × State :=
  let stored := { s with romSerial := setSerialBit s.romSerial s.romByte s.romBit b }
  if s.romBit = lastBit then
    if s.romByte = lastSerialByte then (.pending, { stored with romBit := 0#3, romByte := 0#3, romPhase := .crc })
    else (.pending, { stored with romBit := 0#3, romByte := s.romByte + 1 })
  else (.pending, { stored with romBit := s.romBit + 1 })

/-- RomStep, phase CRC, with completion and publication (R184, D21).  The CRC is captured and not checked (R191). -/
def romCrcUpdate (b : Bool) (s : State) : Status × State :=
  let stored := { s with romCrc := setBit s.romCrc s.romBit b }
  if s.romBit = lastBit then
    (.finished, { stored with romBit := 0#3, romPhase := .family, familyOut := s.romFamily })
  else (.pending, { stored with romBit := s.romBit + 1 })

/-- A reserved value in the ROM builder's registers (R190, U1). -/
def romFault (s : State) : Option Fault :=
  if s.romPhase = .reserved then some .romPhaseReserved
  else if s.romByte > lastSerialByte then some .romByteOutOfRange
  else none

/-- The ROM builder's update on one sample, by phase (R181).  Phase 3 is a fault before this runs. -/
def romUpdate (b : Bool) (s : State) : Status × State :=
  match s.romPhase with
  | .family   => romFamilyUpdate b s
  | .serial   => romSerialUpdate b s
  | .crc      => romCrcUpdate b s
  | .reserved => (.pending, s)

/-- RomStep (R181 to R184). -/
def romStep (s : State) : Except Fault SubDone :=
  match romFault s with
  | some f => .error f
  | none   => afterSlot (slotRd s) romUpdate

/-- The accumulator's update on one sample (R186). -/
def spCollect (b : Bool) (s : State) : Status × State :=
  (.pending, { s with tempAcc := setTempBit s.tempAcc s.spIdx b, spIdx := s.spIdx + 1 })

/-- The accumulator's update after its terminating reset (R187). -/
def spTerminate (s : State) : Status × State :=
  (.finished, { s with spIdx := 0#4 })

/-- SpStep: 15 collecting steps (R186), then the terminating reset (R187, C6). -/
def spStep (s : State) : Except Fault SubDone :=
  if s.spIdx = spBits then afterSlot (slotRst s) (fun _ t => spTerminate t)
  else afterSlot (slotRd s) spCollect

/-- OtherReply: the bit is consumed and discarded, and the status is ERROR (R189, D13). -/
def otherReply (s : State) : Except Fault SubDone :=
  afterSlot (slotRd s) (fun _ t => (.error, t))

/-- DecStep (R180). -/
def decStep (opc : Byte) (s : State) : Except Fault SubDone :=
  if opc = s.cfg.opcReadRom then romStep s
  else if opc = s.cfg.opcReadScratchpad then spStep s
  else otherReply s

end Sys2Proof.Machine
end

