-- ==== Sys2Proof/Machine/Transaction.lean ====
section
/-! DEFINITION. The device-transaction orchestrator (R210, R211, R213) and the meanings of the nine OW_CMD8 rows, each one
call of it with that row's code (R151 to R159). -/

namespace Sys2Proof.Machine

/-- The conversion-ready poll's update on one sample (R213). -/
def readyUpdate (b : Bool) (s : State) : Status × State :=
  if b then (.finished, { s with txnState := .writing }) else (.pending, s)

/-- ConvReadyStep (R213). -/
def convReadyStep (s : State) : Except Fault SubDone := afterSlot (slotRd s) readyUpdate

/-- TxnStep in WRITING: on the encoder's FINISHED the state becomes READING; the status is always PENDING (R210). -/
def txnWrite (opc : Byte) (s : State) : Except Fault SubDone :=
  match encStep opc s with
  | .error f => .error f
  | .ok d =>
    .ok { d with
      state := if d.status = .finished then { d.state with txnState := .reading } else d.state
      status := .pending }

/-- TxnStep in READING: the conversion-ready poll, or the reply decoder, whose status is passed on; a status other than
PENDING returns the transaction to WRITING (R211). -/
def txnRead (opc : Byte) (s : State) : Except Fault SubDone :=
  if opc = s.cfg.opcConvertT then convReadyStep s
  else
    match decStep opc s with
    | .error f => .error f
    | .ok d =>
      .ok { d with state := if d.status = .pending then d.state else { d.state with txnState := .writing } }

/-- TxnStep (R210, R211).  `opc` is not latched (R215). -/
def txnStep (opc : Byte) (s : State) : Except Fault SubDone :=
  match s.txnState with
  | .writing => txnWrite opc s
  | .reading => txnRead opc s

/-- The response of one transaction step called on its own: its status, with cause UNSUPPORTED_REPLY when that is ERROR, the
one error a transaction has (R211, R263). -/
def txnRespond (d : SubDone) : State :=
  match d.status with
  | .error => raiseError .unsupportedReply d.slot d.sample d.state
  | st     => respondOk st d.slot d.sample 0#16 d.state

/-- One step of the transaction layer as an event of its own (U3, R263; log entry 1).  Without a pending tick it answers
PENDING and changes nothing else, as X6 asks of any codec function (log entry 8). -/
def runTxn (opc : Byte) (s : State) : Host.Outcome State Fault Refusal :=
  whenInitialised s <|
    if s.tickFlag then
      match txnStep opc s with
      | .ok d    => .next (txnRespond d)
      | .error f => .fault f
    else .next (respondOk .pending .none false 0#16 s)

/-- READ ROM (R151). -/
def execReadRom (s : State) : Host.Outcome State Fault Refusal := runTxn s.cfg.opcReadRom s

/-- MATCH ROM (R152). -/
def execMatchRom (s : State) : Host.Outcome State Fault Refusal := runTxn s.cfg.opcMatchRom s

/-- SKIP ROM (R153). -/
def execSkipRom (s : State) : Host.Outcome State Fault Refusal := runTxn s.cfg.opcSkipRom s

/-- ALARM SEARCH (R154). -/
def execAlarmSearch (s : State) : Host.Outcome State Fault Refusal := runTxn s.cfg.opcAlarmSearch s

/-- CONVERT T (R155). -/
def execConvertT (s : State) : Host.Outcome State Fault Refusal := runTxn s.cfg.opcConvertT s

/-- WRITE SCRATCHPAD (R156). -/
def execWriteScratchpad (s : State) : Host.Outcome State Fault Refusal := runTxn s.cfg.opcWriteScratchpad s

/-- READ SCRATCHPAD (R157).  The shift and the publication are the sequencer's, not the transaction's (R235). -/
def execReadScratchpad (s : State) : Host.Outcome State Fault Refusal := runTxn s.cfg.opcReadScratchpad s

/-- COPY SCRATCHPAD (R158). -/
def execCopyScratchpad (s : State) : Host.Outcome State Fault Refusal := runTxn s.cfg.opcCopyScratchpad s

/-- READ POWER SUPPLY (R159). -/
def execReadPowerSupply (s : State) : Host.Outcome State Fault Refusal := runTxn s.cfg.opcReadPowerSupply s

end Sys2Proof.Machine
end

