-- ==== Sys2Proof/Machine/Sequencer.lean ====
section
/-! DEFINITION. The conversion sequencer: STEP in each of its states (R230 to R236). -/

namespace Sys2Proof.Machine

/-- MASTER_RESET (R232): the reset pulse in one progressing STEP, then one presence sample in each (C5). -/
def seqReset (s : State) : Except Fault State :=
  if s.resetIssued then
    match presenceStep s with
    | .error f => .error f
    | .ok d =>
      match d.status with
      | .finished => .ok (respondOk .pending d.slot d.sample 0#16 { d.state with seqState := .masterReadRom })
      | .error    => .ok (raiseError .presenceTimeout d.slot d.sample d.state)
      | .pending  => .ok (respondOk .pending d.slot d.sample 0#16 d.state)
  else
    match slotRst s with
    | .error f => .error f
    | .ok d    => .ok (respondOk .pending d.slot d.sample 0#16 (markResetIssued d.state))

/-- MASTER_READ_ROM (R233). -/
def seqReadRom (s : State) : Except Fault State :=
  match txnStep s.cfg.opcReadRom s with
  | .error f => .error f
  | .ok d =>
    .ok (respondOk .pending d.slot d.sample 0#16
      (if d.status = .finished then { d.state with seqState := .masterTxFnCommand } else d.state))

/-- MASTER_TX_FN_COMMAND with `conv_triggered = 0`: the conversion trigger (R234). -/
def seqTrigger (s : State) : Except Fault State :=
  match txnStep s.cfg.opcConvertT s with
  | .error f => .error f
  | .ok d =>
    .ok (respondOk .pending d.slot d.sample 0#16
      (if d.status = .finished then { markConvTriggered d.state with seqState := .masterReset } else d.state))

/-- The end of the read-back: the accumulator is shifted, the result published, both flags cleared, and the state is
MASTER_RESET again (R235, D21). -/
def publishTemp (s : State) : State :=
  { clearCycleFlags s with tempAcc := scaleTemp s.tempAcc, tempOut := scaleTemp s.tempAcc, seqState := .masterReset }

/-- MASTER_TX_FN_COMMAND with `conv_triggered = 1`: the read-back (R235). -/
def seqReadBack (s : State) : Except Fault State :=
  match txnStep s.cfg.opcReadScratchpad s with
  | .error f => .error f
  | .ok d =>
    if d.status = .finished then .ok (respondOk .finished d.slot d.sample 0#16 (publishTemp d.state))
    else .ok (respondOk .pending d.slot d.sample 0#16 d.state)

/-- The sequencer's checks in the order of R265: the invalid state, then the tick, then the state's case (R230). -/
def seqStep (s : State) : Except Fault State :=
  match s.seqState with
  | .invalid           => .ok (raiseError .invalidState .none false s)
  | .masterReset       => if s.tickFlag then seqReset s else .ok (respondOk .pending .none false 0#16 s)
  | .masterReadRom     => if s.tickFlag then seqReadRom s else .ok (respondOk .pending .none false 0#16 s)
  | .masterTxFnCommand =>
    if s.tickFlag then (if s.convTriggered then seqReadBack s else seqTrigger s)
    else .ok (respondOk .pending .none false 0#16 s)

end Sys2Proof.Machine
end

