-- ==== Sys2Proof/Machine/Event.lean ====
section
/-! DEFINITION. The meanings of the host commands and of TICK. -/

namespace Sys2Proof.Machine

/-- INIT (R290): every register at its reset value, allowed at any time, before the first INIT too (R291, D22).  The bus
trace, the configuration, the recorded marks and the environment's data stay. -/
def execInit (s : State) : Host.Outcome State Fault Refusal :=
  .next (respondOk .finished .none false 0#16 (resetData (resetControl s)))

/-- STEP (R230). -/
def execStep (s : State) : Host.Outcome State Fault Refusal :=
  whenInitialised s (outcomeOf (seqStep s))

/-- GET_TEMP (R240): the published value, and the tick is not consumed. -/
def execGetTemp (s : State) : Host.Outcome State Fault Refusal :=
  whenInitialised s (.next (respondOk .finished .none false s.tempOut s))

/-- GET_FAMILY (R241): the published value, zero-extended. -/
def execGetFamily (s : State) : Host.Outcome State Fault Refusal :=
  whenInitialised s (.next (respondOk .finished .none false (s.familyOut.zeroExtend 16) s))

/-- TICK (R120, R121): sets `tick_flag`, merging with a tick already pending; no response. -/
def execTick (s : State) : Host.Outcome State Fault Refusal :=
  whenInitialised s (.next (setTick s))

end Sys2Proof.Machine
end

