-- ==== Sys2Proof/Syntax.lean ====
section
/-! DEFINITION. The instructions, one constructor for each row of spec/opcode_table.json, and the encoded words they are
read from, one constructor for each of the four formats. -/

namespace Sys2Proof

/-- The eighteen rows of the opcode table.  No format has operand fields (R90, R92, R93, R94). -/
inductive Instr where
  -- HOST_CMD2, the commands of the host port (R90)
  | init
  | step
  | getTemp
  | getFamily
  -- TICK, the strobe of the tick port (R93)
  | tick
  -- SLOT_OP3, the slot primitives (R92)
  | w0
  | w1
  | rd
  | rst
  -- OW_CMD8, the instruction codes of the line (R94, R98)
  | readRom
  | matchRom
  | skipRom
  | alarmSearch
  | convertT
  | writeScratchpad
  | readScratchpad
  | copyScratchpad
  | readPowerSupply
  deriving DecidableEq, Repr

/-- An encoded word together with the format it is in.  Each format lives on an interface of its own, so the format is not
read from the bits (R104: a decoder never needs to find a length). -/
inductive CodeWord where
  | hostCmd2 (cmd : BitVec 2)     -- host_cmd[1:0], with host_valid = 1 (R90)
  | tick1    (strobe : BitVec 1)  -- the tick strobe (R93)
  | slotOp3  (code : BitVec 3)    -- a slot operation code (R92)
  | owCmd8   (opc : Byte)         -- an instruction code byte (R94)
  deriving DecidableEq, Repr

/-- The four formats (R104). -/
inductive Format where
  | hostCmd2
  | tick1
  | slotOp3
  | owCmd8
  deriving DecidableEq, Repr

/-- The format of an encoded word. -/
def CodeWord.format : CodeWord → Format
  | .hostCmd2 _ => .hostCmd2
  | .tick1 _    => .tick1
  | .slotOp3 _  => .slotOp3
  | .owCmd8 _   => .owCmd8

/-- The format the opcode table gives an instruction. -/
def Instr.format : Instr → Format
  | .init            => .hostCmd2
  | .step            => .hostCmd2
  | .getTemp         => .hostCmd2
  | .getFamily       => .hostCmd2
  | .tick            => .tick1
  | .w0              => .slotOp3
  | .w1              => .slotOp3
  | .rd              => .slotOp3
  | .rst             => .slotOp3
  | .readRom         => .owCmd8
  | .matchRom        => .owCmd8
  | .skipRom         => .owCmd8
  | .alarmSearch     => .owCmd8
  | .convertT        => .owCmd8
  | .writeScratchpad => .owCmd8
  | .readScratchpad  => .owCmd8
  | .copyScratchpad  => .owCmd8
  | .readPowerSupply => .owCmd8

end Sys2Proof
end

