-- ==== Sys2Proof/Machine/Dispatch.lean ====
section
/-! DEFINITION. One arm for each instruction, each a direct call of its meaning. -/

namespace Sys2Proof.Machine

def exec (i : Instr) (s : State) : Host.Outcome State Fault Refusal :=
  match i with
  -- HOST_CMD2 (R90)
  | .init => Sys2Proof.Machine.execInit s
  | .step => Sys2Proof.Machine.execStep s
  | .getTemp => Sys2Proof.Machine.execGetTemp s
  | .getFamily => Sys2Proof.Machine.execGetFamily s
  -- TICK (R93)
  | .tick => Sys2Proof.Machine.execTick s
  -- SLOT_OP3 (R92)
  | .w0 => Sys2Proof.Machine.execW0 s
  | .w1 => Sys2Proof.Machine.execW1 s
  | .rd => Sys2Proof.Machine.execRd s
  | .rst => Sys2Proof.Machine.execRst s
  -- OW_CMD8 (R94)
  | .readRom => Sys2Proof.Machine.execReadRom s
  | .matchRom => Sys2Proof.Machine.execMatchRom s
  | .skipRom => Sys2Proof.Machine.execSkipRom s
  | .alarmSearch => Sys2Proof.Machine.execAlarmSearch s
  | .convertT => Sys2Proof.Machine.execConvertT s
  | .writeScratchpad => Sys2Proof.Machine.execWriteScratchpad s
  | .readScratchpad => Sys2Proof.Machine.execReadScratchpad s
  | .copyScratchpad => Sys2Proof.Machine.execCopyScratchpad s
  | .readPowerSupply => Sys2Proof.Machine.execReadPowerSupply s

end Sys2Proof.Machine
end

