-- ==== Sys2Proof/WellFormed.lean ====
section
/-! DEFINITION. What a configuration must meet (R101), and when an instruction's word names it alone under a
configuration. -/

namespace Sys2Proof

/-- R101: `OPC_READ_ROM`, `OPC_CONVERT_T` and `OPC_READ_SCRATCHPAD` are pairwise distinct, since the transaction and the
reply decoder dispatch on equality with them. -/
def Config.wellFormed (c : Config) : Bool :=
  c.opcReadRom != c.opcConvertT && c.opcReadRom != c.opcReadScratchpad && c.opcConvertT != c.opcReadScratchpad

/-- The nine codes in the order of R99's table. -/
def Config.codes (c : Config) : List Byte :=
  [c.opcReadRom, c.opcMatchRom, c.opcSkipRom, c.opcAlarmSearch, c.opcConvertT, c.opcWriteScratchpad,
   c.opcReadScratchpad, c.opcCopyScratchpad, c.opcReadPowerSupply]

/-- The code stands once among the nine, so that a byte equal to it names one instruction. -/
def Config.unique (c : Config) (opc : Byte) : Bool :=
  c.codes.count opc == 1

/-- An instruction is well-formed under a configuration when its word names it alone.  R101 leaves the six codes that are
never issued free to coincide with others; the defaults of R99 are pairwise distinct. -/
def Instr.wellFormed (c : Config) : Instr → Bool
  | .init            => true
  | .step            => true
  | .getTemp         => true
  | .getFamily       => true
  | .tick            => true
  | .w0              => true
  | .w1              => true
  | .rd              => true
  | .rst             => true
  | .readRom         => c.unique c.opcReadRom
  | .matchRom        => c.unique c.opcMatchRom
  | .skipRom         => c.unique c.opcSkipRom
  | .alarmSearch     => c.unique c.opcAlarmSearch
  | .convertT        => c.unique c.opcConvertT
  | .writeScratchpad => c.unique c.opcWriteScratchpad
  | .readScratchpad  => c.unique c.opcReadScratchpad
  | .copyScratchpad  => c.unique c.opcCopyScratchpad
  | .readPowerSupply => c.unique c.opcReadPowerSupply

end Sys2Proof
end

