-- ==== Sys2Proof/Decode.lean ====
section
/-! DEFINITION. The decoder, total on every word of every format, which names what it rejects; the encoder written from the
same tables (R90, R92, R93, R99); and the reading of a table word that names no port. -/

namespace Sys2Proof

/-- Why a word is no instruction. -/
inductive DecodeError where
  | noPulse                     -- the tick strobe is 0: no TICK event (R93)
  | slotNone                    -- slot code 000, SLOT_NONE: no primitive (R92)
  | reservedSlot (code : BitVec 3)  -- slot codes 101, 110 and 111 (R92, R102)
  | unknownCode (opc : Byte)    -- a code byte outside the nine (R161, U3)
  deriving DecidableEq, Repr

/-- HOST_CMD2: all four values are defined, and the host decoder is total (R90). -/
def decodeHost (cmd : BitVec 2) : Instr :=
  if cmd = 0b00#2 then .init
  else if cmd = 0b01#2 then .step
  else if cmd = 0b10#2 then .getTemp
  else .getFamily

/-- TICK: each pulse of the strobe is one TICK event (R93). -/
def decodeTick (strobe : BitVec 1) : Except DecodeError Instr :=
  if strobe = 1#1 then .ok .tick else .error .noPulse

/-- SLOT_OP3 (R92); 101, 110 and 111 are reserved (R102). -/
def decodeSlot (code : BitVec 3) : Except DecodeError Instr :=
  if code = 0b000#3 then .error .slotNone
  else if code = 0b001#3 then .ok .w0
  else if code = 0b010#3 then .ok .w1
  else if code = 0b011#3 then .ok .rd
  else if code = 0b100#3 then .ok .rst
  else .error (.reservedSlot code)

/-- OW_CMD8: the nine codes in the order of R99's table.  Where two parameters coincide, which R101 allows for the codes
that are never issued, the earlier row of the table is read. -/
def decodeOw (c : Config) (opc : Byte) : Except DecodeError Instr :=
  if opc = c.opcReadRom then .ok .readRom
  else if opc = c.opcMatchRom then .ok .matchRom
  else if opc = c.opcSkipRom then .ok .skipRom
  else if opc = c.opcAlarmSearch then .ok .alarmSearch
  else if opc = c.opcConvertT then .ok .convertT
  else if opc = c.opcWriteScratchpad then .ok .writeScratchpad
  else if opc = c.opcReadScratchpad then .ok .readScratchpad
  else if opc = c.opcCopyScratchpad then .ok .copyScratchpad
  else if opc = c.opcReadPowerSupply then .ok .readPowerSupply
  else .error (.unknownCode opc)

/-- The decoder. -/
def decode (c : Config) : CodeWord → Except DecodeError Instr
  | .hostCmd2 cmd  => .ok (decodeHost cmd)
  | .tick1 strobe  => decodeTick strobe
  | .slotOp3 code  => decodeSlot code
  | .owCmd8 opc    => decodeOw c opc

/-- The encoder, from the same tables. -/
def encode (c : Config) : Instr → CodeWord
  | .init            => .hostCmd2 0b00#2
  | .step            => .hostCmd2 0b01#2
  | .getTemp         => .hostCmd2 0b10#2
  | .getFamily       => .hostCmd2 0b11#2
  | .tick            => .tick1 1#1
  | .w0              => .slotOp3 0b001#3
  | .w1              => .slotOp3 0b010#3
  | .rd              => .slotOp3 0b011#3
  | .rst             => .slotOp3 0b100#3
  | .readRom         => .owCmd8 c.opcReadRom
  | .matchRom        => .owCmd8 c.opcMatchRom
  | .skipRom         => .owCmd8 c.opcSkipRom
  | .alarmSearch     => .owCmd8 c.opcAlarmSearch
  | .convertT        => .owCmd8 c.opcConvertT
  | .writeScratchpad => .owCmd8 c.opcWriteScratchpad
  | .readScratchpad  => .owCmd8 c.opcReadScratchpad
  | .copyScratchpad  => .owCmd8 c.opcCopyScratchpad
  | .readPowerSupply => .owCmd8 c.opcReadPowerSupply

/-- The code parameter of an OW_CMD8 row (R99); the other rows have none. -/
def lineCode (c : Config) : Instr → Option Byte
  | .init            => none
  | .step            => none
  | .getTemp         => none
  | .getFamily       => none
  | .tick            => none
  | .w0              => none
  | .w1              => none
  | .rd              => none
  | .rst             => none
  | .readRom         => some c.opcReadRom
  | .matchRom        => some c.opcMatchRom
  | .skipRom         => some c.opcSkipRom
  | .alarmSearch     => some c.opcAlarmSearch
  | .convertT        => some c.opcConvertT
  | .writeScratchpad => some c.opcWriteScratchpad
  | .readScratchpad  => some c.opcReadScratchpad
  | .copyScratchpad  => some c.opcCopyScratchpad
  | .readPowerSupply => some c.opcReadPowerSupply

/-- The word a table row stands for, when only a number of bits and a value are given and not the port.  The exact width of
a format picks that format (1 TICK, 2 HOST_CMD2, 3 SLOT_OP3).  A whole byte is read as an instruction code if it is one of
the nine; else a value below 4 as a host command and the value 4 as the slot code of RST.
DESIGN CHOICE (log entry 7): a whole byte of value 1, 2 or 3 does not say which port it stands for; a number of bits that is
no format's (0, 4 to 7, above 8) is read as a whole byte; and a value too wide for its format is cut to its low bits, so that
0x133 is read as 0x33. -/
def tableWord (c : Config) (nbits w : Nat) : CodeWord :=
  if nbits = 1 then .tick1 (BitVec.ofNat 1 w)
  else if nbits = 2 then .hostCmd2 (BitVec.ofNat 2 w)
  else if nbits = 3 then .slotOp3 (BitVec.ofNat 3 w)
  else if c.codes.contains (BitVec.ofNat 8 w) then .owCmd8 (BitVec.ofNat 8 w)
  else if w < 4 then .hostCmd2 (BitVec.ofNat 2 w)
  else if w < 8 then .slotOp3 (BitVec.ofNat 3 w)
  else .owCmd8 (BitVec.ofNat 8 w)

/-- The instruction the decoder reads from a table word, under the default configuration of R99.  A value that does not fit
in `nbits`, or in the widest format's 8 bits (R104), is no word.  DESIGN CHOICE (log entry 7): so `tableWord`'s cut of a value
too wide is never met here. -/
def decodeTableWord (nbits w : Nat) : Option Instr :=
  if 2 ^ nbits ≤ w ∨ 256 ≤ w then none
  else
    match decode Config.standard (tableWord Config.standard nbits w) with
    | .ok i => some i
    | .error _ => none

end Sys2Proof
end

