-- ==== Sys2Proof/Machine/Fetch.lean ====
section
/-! DEFINITION. Taking the next input: the launch premises a run needs (R50, R101, R292), the arrivals at the ports in their
order (R75, R77), and placing a word as the next input. -/

namespace Sys2Proof.Machine

/-- What the next input gives. -/
inductive Taken where
  | run    (i : Instr) (s : State)  -- an event to process, in the state with the input taken
  | quiet  (s : State)              -- no event: nothing arrived
  | refuse (r : Refusal)
  | fault  (f : Fault)
  deriving DecidableEq, Repr

/-- A rejected word as an outcome.  A strobe at 0 is no event, and OWM keeps its state (R93, R277); a slot code or a code byte
that names nothing is refused (U3, R102). -/
def rejected (e : DecodeError) (s : State) : Taken :=
  match e with
  | .noPulse           => .quiet s
  | .slotNone          => .refuse (.noSuchSlot 0b000#3)
  | .reservedSlot code => .refuse (.noSuchSlot code)
  | .unknownCode opc   => .refuse (.unknownCode opc)

/-- A word taken from an input: decoded under the state's configuration. -/
def takeWord (w : CodeWord) (s : State) : Taken :=
  match decode s.cfg w with
  | .ok i    => .run i s
  | .error e => rejected e s

/-- A TICK and a host command that arrive together: one of them now, the other as the next input.  Which one is a free value
(R77, R266, D17, log entry 6). -/
def takeBoth (cmd : BitVec 2) (rest : List Input) (s : State) : Taken :=
  if Config.tickFirst s.orderDraws then
    takeWord (.tick1 1#1) { s with pending := .ports false (some cmd) :: rest, orderDraws := s.orderDraws + 1 }
  else
    takeWord (.hostCmd2 cmd) { s with pending := .ports true none :: rest, orderDraws := s.orderDraws + 1 }

/-- The next input, taken off `pending`.  With nothing pending OWM keeps its state (R277, R294). -/
def takeInput (s : State) : Taken :=
  match s.pending with
  | []                               => .quiet s
  | .ports true (some cmd) :: rest   => takeBoth cmd rest s
  | .ports false (some cmd) :: rest  => takeWord (.hostCmd2 cmd) { s with pending := rest }
  | .ports true none :: rest         => takeWord (.tick1 1#1) { s with pending := rest }
  | .ports false none :: rest        => takeWord (.tick1 0#1) { s with pending := rest }
  | .slot code :: rest               => takeWord (.slotOp3 code) { s with pending := rest }
  | .code opc :: rest                => takeWord (.owCmd8 opc) { s with pending := rest }

/-- The launch premises that every step checks: a configuration that meets R101, and no refusal and no fault recorded
(R292 (c) and (f), R50). -/
def launchCheck (s : State) (k : Taken) : Taken :=
  if s.cfg.wellFormed = false then .refuse .badConfiguration
  else if s.refused then .refuse .refusalRecorded
  else if s.faulted then .fault .faultRecorded
  else k

/-- What the machine does next. -/
def nextInput (s : State) : Taken := launchCheck s (takeInput s)

/-- An encoded word as the input that delivers it. -/
def inputOf : CodeWord → Input
  | .hostCmd2 cmd => .ports false (some cmd)
  | .tick1 strobe => .ports (strobe == 1#1) none
  | .slotOp3 code => .slot code
  | .owCmd8 opc   => .code opc

/-- Whether a word calls a layer that works on a pending tick (R122). -/
def usesTick : CodeWord → Bool
  | .hostCmd2 _ => false
  | .tick1 _    => false
  | .slotOp3 _  => true
  | .owCmd8 _   => true

/-- A word placed as the very next input.  A primitive or a transaction step starts only with a tick pending (R122, R123), so
for those words a tick is pending too (log entry 5). -/
def placeWord (w : CodeWord) (s : State) : State :=
  { s with
    pending  := inputOf w :: s.pending
    tickFlag := usesTick w || s.tickFlag }

end Sys2Proof.Machine
end

