-- ==== Sys2Proof/Machine/Step.lean ====
section
/-! DEFINITION. One step of the machine: the next input, processed in full (R8, R40). -/

namespace Sys2Proof.Machine

/-- One event, atomic and in full (R8, R71). -/
def step (s : State) : Host.Outcome State Fault Refusal :=
  match nextInput s with
  | .run i t  => exec i t
  | .quiet t  => .next t
  | .refuse r => .refused r
  | .fault f  => .fault f

/-- The state with a table word placed as the next input (log entry 5).  A script is loaded from outside the machine (R105);
this stands for that load.  DESIGN CHOICE (log entry 7): a number of bits that is no format's is read as a whole byte, and a
value too wide is cut to its low bits, where `decodeTableWord` answers none. -/
def State.withFetchWord (s : State) (nbits w : Nat) : State :=
  placeWord (tableWord s.cfg nbits w) s

end Sys2Proof.Machine
end

