-- ==== Sys2Proof/Machine/Script.lean ====
section
/-! DEFINITION. Scripts (R105) and their pseudo-events (R106), and what a run of TSTEPs does. -/

namespace Sys2Proof.Machine

/-- One line of a script as the input it delivers: a host command of R90, or one pulse on `tick` (R105).  The line `STEP?` of
R106 is a `step` whose author expects no slot. -/
inductive Line where
  | init
  | step
  | getTemp
  | getFamily
  | tick
  deriving DecidableEq, Repr

/-- The input a line delivers (R105). -/
def lineInput : Line → Input
  | .init      => .ports false (some 0b00#2)
  | .step      => .ports false (some 0b01#2)
  | .getTemp   => .ports false (some 0b10#2)
  | .getFamily => .ports false (some 0b11#2)
  | .tick      => .ports true none

/-- `TSTEP*n` expands to `n` copies of TICK then STEP (R106). -/
def tstepLines : Nat → List Line
  | 0     => []
  | n + 1 => .tick :: .step :: tstepLines n

/-- The launch state paired with a script and a sample stream (R105, R292). -/
def launch (script : List Line) (stream : List Bool) : State :=
  { State.reset with pending := script.map lineInput, samples := stream }

/-- One outcome, then the next event from the state it left. -/
def andThen (o : Host.Outcome State Fault Refusal) (k : State → Host.Outcome State Fault Refusal) :
    Host.Outcome State Fault Refusal :=
  match o with
  | .next s    => k s
  | .fault f   => .fault f
  | .refused r => .refused r

/-- TSTEP: a TICK, then a STEP (R106). -/
def tstep (s : State) : Host.Outcome State Fault Refusal := andThen (exec .tick s) (exec .step)

/-- `TSTEP*n` (R106). -/
def tsteps : Nat → State → Host.Outcome State Fault Refusal
  | 0,     s => .next s
  | n + 1, s => andThen (tstep s) (tsteps n)

/-- A sub-machine step as one tick would drive it, called `n` times: each call with a tick pending, as in a progressing STEP
(R122).  Answers the statuses of the calls and the last state. -/
def calls (f : State → Except Fault SubDone) : Nat → State → Except Fault (List Status × State)
  | 0,     s => .ok ([], s)
  | n + 1, s =>
    match f (setTick s) with
    | .error e => .error e
    | .ok d =>
      match calls f n d.state with
      | .error e => .error e
      | .ok (sts, t) => .ok (d.status :: sts, t)

end Sys2Proof.Machine
end

