-- ==== Sys2Proof/Safety.lean ====
section
/-! DEFINITION. What a safe state is: the invariants of R44, the premises of R292, and what a run keeps after a stop (R50). -/

namespace Sys2Proof.Machine

/-- Every register holds one of its legal values between events: R44 items 1 to 6, and no reserved code (R23, R102). -/
structure RegsLegal (s : State) : Prop where
  /-- Item 1. -/
  suspend_off    : s.suspend = false
  /-- Item 1. -/
  line_released  : s.owDriveLow = false
  /-- Item 2. -/
  pd_state_legal : s.pdState = .waitLow ∨ s.pdState = .countLow
  /-- Item 2. -/
  pd_count_bound : s.pdCount ≤ pdMaxLow
  /-- Item 2. -/
  pd_count_zero  : s.pdState = .waitLow ↔ s.pdCount = 0#3
  /-- Item 3. -/
  enc_one_hot    : isOneHot s.encMask = true
  /-- Item 4. -/
  reading_mask   : s.txnState = .reading → s.encMask = 0x01#8
  /-- Item 5; `rom_bit ≤ 7` holds by its width. -/
  rom_phase_legal : s.romPhase ≠ .reserved
  /-- Item 5. -/
  rom_byte_bound : s.romByte ≤ lastSerialByte
  /-- Item 5. -/
  rom_byte_zero  : s.romPhase ≠ .serial → s.romByte = 0#3
  /-- Item 9; item 6, `sp_idx ≤ 15`, holds by its width. -/
  seq_legal      : s.seqState ≠ .invalid

/-- The twelve invariants of R44. -/
structure Inv (s : State) : Prop where
  /-- Items 1 to 6, and `seq_state ∈ {0, 1, 2}` of item 9. -/
  regs          : RegsLegal s
  /-- Item 7. -/
  rom_in_read   : ¬(s.romPhase = .family ∧ s.romBit = 0#3 ∧ s.romByte = 0#3) →
                    s.seqState = .masterReadRom ∧ s.txnState = .reading
  /-- Item 8. -/
  sp_in_read    : s.spIdx ≠ 0#4 →
                    s.seqState = .masterTxFnCommand ∧ s.convTriggered = true ∧ s.txnState = .reading
  /-- Item 9. -/
  issued        : s.seqState = .masterReadRom ∨ s.seqState = .masterTxFnCommand → s.resetIssued = true
  /-- Item 10. -/
  reset_writing : s.seqState = .masterReset → s.txnState = .writing ∧ s.encMask = 0x01#8
  /-- Item 11. -/
  pd_in_reset   : s.pdState ≠ .waitLow → s.seqState = .masterReset ∧ s.resetIssued = true
  /-- Item 12. -/
  acc_bound     : s.tempAcc.toNat ≤ 0x7FFF
  /-- Item 12: `0 ≤ signed16(temp_out) ≤ 2047`. -/
  out_bound     : s.tempOut.toNat ≤ 2047

/-- An input that arrives at the block's own ports, and not a direct call of a lower layer. -/
def atPorts : Input → Bool
  | .ports _ _ => true
  | .slot _    => false
  | .code _    => false

/-- The premises of R292 that hold all through a run: a configuration that meets R101, `initialised`, no refusal and no fault
recorded; and a script made of port arrivals (R105). -/
structure Launched (s : State) : Prop where
  cfg_ok      : s.cfg.wellFormed = true
  initialised : s.initialised = true
  not_refused : s.refused = false
  not_faulted : s.faulted = false
  script_ok   : s.pending.all atPorts = true

/-- Every control register at its reset value, the point a round returns to (R47, R239): the control point of R21, and
`suspend`. -/
def atRest (s : State) : Prop := resetControl s = s

/-- The number a received stream stands for, first bit at bit 0 (R62, R63, R64). -/
def streamValue : List Bool → Nat
  | []      => 0
  | b :: bs => b.toNat + 2 * streamValue bs

/-- The slots an instruction code takes on the wire, `W(opc)`: bit 0 first, W1 for a 1 and W0 for a 0 (R94, R61). -/
def codeSlots (opc : Byte) : List BusEvent :=
  (List.range 8).map fun k => if opc.getLsbD k then .w1 else .w0

/-- The presence samples of R239: `h` leading highs, `m` lows, one high. -/
def presenceBits (h m : Nat) : List Bool := List.replicate h true ++ List.replicate m false ++ [true]

/-- The busy/ready samples of R239: `k` polls, the last the first 1. -/
def readyBits (k : Nat) : List Bool := List.replicate (k - 1) false ++ [true]

/-- The state a run keeps after one step, a stop being recorded (R50). -/
def advance (s : State) : State := recordOutcome s (step s)

end Sys2Proof.Machine
end

