-- ==== Sys2Proof/Certificates/Slice0/Obligations.lean ====
section
/-! DEFINITION. The statements for the provers: encodings, reset, what each instruction does and leaves unchanged, the
invariants of R44, the whole-machine rules, and the laws of the sub-machines and of a round. -/

open Sys2Proof Sys2Proof.Machine

/-! ## Encodings and taking an input -/

/-- R90: the four host commands; the host decoder is total; a command is taken when `host_valid` is 1. -/
def Obligations.HostCommandWords : Prop :=
  (∀ c : Config,
    decode c (.hostCmd2 0b00#2) = .ok .init ∧ decode c (.hostCmd2 0b01#2) = .ok .step ∧
    decode c (.hostCmd2 0b10#2) = .ok .getTemp ∧ decode c (.hostCmd2 0b11#2) = .ok .getFamily ∧
    ∀ cmd, ∃ i, decode c (.hostCmd2 cmd) = .ok i) ∧
  (∀ (s : State) (cmd : BitVec 2) (rest : List Input), s.pending = .ports false (some cmd) :: rest →
    takeInput s = .run (decodeHost cmd) { s with pending := rest }) ∧
  (∀ (s : State) (rest : List Input), s.pending = .ports false none :: rest →
    takeInput s = .quiet { s with pending := rest })

/-- R92, R93, R102: the tick strobe and the slot codes; the reserved slot codes are refused, never read as a neighbour. -/
def Obligations.TickAndSlotWords : Prop :=
  ∀ c : Config,
    decode c (.tick1 1#1) = .ok .tick ∧ decode c (.tick1 0#1) = .error .noPulse ∧
    decode c (.slotOp3 0b000#3) = .error .slotNone ∧
    decode c (.slotOp3 0b001#3) = .ok .w0 ∧ decode c (.slotOp3 0b010#3) = .ok .w1 ∧
    decode c (.slotOp3 0b011#3) = .ok .rd ∧ decode c (.slotOp3 0b100#3) = .ok .rst ∧
    decode c (.slotOp3 0b101#3) = .error (.reservedSlot 0b101#3) ∧
    decode c (.slotOp3 0b110#3) = .error (.reservedSlot 0b110#3) ∧
    decode c (.slotOp3 0b111#3) = .error (.reservedSlot 0b111#3)

/-- R99, R161: the nine codes at their defaults, and no other byte is a code.  The default values are PRESUMED (log entry 4:
the spec marks them as general knowledge, G1). -/
def Obligations.LineCodeWords : Prop :=
  decode Config.standard (.owCmd8 0x33#8) = .ok .readRom ∧
  decode Config.standard (.owCmd8 0x55#8) = .ok .matchRom ∧
  decode Config.standard (.owCmd8 0xCC#8) = .ok .skipRom ∧
  decode Config.standard (.owCmd8 0xEC#8) = .ok .alarmSearch ∧
  decode Config.standard (.owCmd8 0x44#8) = .ok .convertT ∧
  decode Config.standard (.owCmd8 0x4E#8) = .ok .writeScratchpad ∧
  decode Config.standard (.owCmd8 0xBE#8) = .ok .readScratchpad ∧
  decode Config.standard (.owCmd8 0x48#8) = .ok .copyScratchpad ∧
  decode Config.standard (.owCmd8 0xB4#8) = .ok .readPowerSupply ∧
  ∀ opc : Byte, opc ∉ [0x33#8, 0x55#8, 0xCC#8, 0xEC#8, 0x44#8, 0x4E#8, 0xBE#8, 0x48#8, 0xB4#8] →
    decode Config.standard (.owCmd8 opc) = .error (.unknownCode opc)

/-- Decode and encode agree: under every configuration, the word of a well-formed instruction is read back as it. -/
def Obligations.EncodedInstructionDecodes : Prop :=
  ∀ (c : Config) (i : Instr), i.wellFormed c = true → decode c (encode c i) = .ok i

/-- Every accepted word is the word of the instruction read from it: decoding drops no bit. -/
def Obligations.DecodedWordEncodesBack : Prop :=
  ∀ (c : Config) (w : CodeWord) (i : Instr), decode c w = .ok i → encode c i = w

/-- A step runs the decoded instruction: with the launch premises met, and the next input an encoded word that decodes to
`i`, the step is `exec i` with the input taken off.  The inputs that carry a slot code or a code byte are the model's direct
calls (DESIGN CHOICE, log entry 1).  `placeWord` makes a word the next input and, for those words, sets `tick_flag`: the
second clause is the model's choice (DESIGN CHOICE, log entry 5), which no rule states. -/
def Obligations.StepRunsDecodedInput : Prop :=
  ∀ (s : State) (w : CodeWord) (i : Instr),
    s.cfg.wellFormed = true → s.refused = false → s.faulted = false → decode s.cfg w = .ok i →
    (∀ rest, s.pending = inputOf w :: rest → step s = exec i { s with pending := rest }) ∧
    step (placeWord w s) = exec i { s with tickFlag := usesTick w || s.tickFlag }

/-- R92, R102, R161, U3: a slot code that names no primitive and a byte outside the nine codes are refused by name when they
are the next input.  That these words are refused is the model's reading (DEDUCED, log entry 15). -/
def Obligations.RejectedWordsRefused : Prop :=
  ∀ (s : State) (rest : List Input), s.cfg.wellFormed = true → s.refused = false → s.faulted = false →
    (∀ code ∈ [0b000#3, 0b101#3, 0b110#3, 0b111#3], s.pending = .slot code :: rest →
      step s = .refused (.noSuchSlot code)) ∧
    (∀ opc, opc ∉ s.cfg.codes → s.pending = .code opc :: rest → step s = .refused (.unknownCode opc))

/-- R77: a TICK and a host command that arrive together are processed one after the other, in this step and the next, and
either order is admitted.  The order is the free value `Config.tickFirst` (log entry 6); the statement holds whichever it
is. -/
def Obligations.SimultaneousArrivals : Prop :=
  ∀ (s : State) (cmd : BitVec 2) (rest : List Input),
    s.cfg.wellFormed = true → s.refused = false → s.faulted = false →
    s.pending = .ports true (some cmd) :: rest →
    step s =
      if Config.tickFirst s.orderDraws = true then
        exec .tick { s with pending := .ports false (some cmd) :: rest, orderDraws := s.orderDraws + 1 }
      else exec (decodeHost cmd) { s with pending := .ports true none :: rest, orderDraws := s.orderDraws + 1 }

/-- R277: with no TICK and no command arriving, OWM stays in its current state. -/
def Obligations.NothingPendingKeepsState : Prop :=
  ∀ s : State, s.cfg.wellFormed = true → s.refused = false → s.faulted = false →
    (s.pending = [] → step s = .next s) ∧
    (∀ rest, s.pending = .ports false none :: rest → step s = .next { s with pending := rest })

/-! ## Reset, INIT and the marks -/

/-- R47, R292: the launch state.  The default codes (log entry 4), and the empty response list, sample list and script
(log entries 2, 3 and 5), are the model's choice and not stated here. -/
def Obligations.ResetRegisterValues : Prop :=
  let s := State.reset
  s.tickFlag = false ∧ s.suspend = false ∧ s.pdState = .waitLow ∧ s.pdCount = 0#3 ∧ s.encMask = 0x01#8 ∧
  s.txnState = .writing ∧ s.romPhase = .family ∧ s.romBit = 0#3 ∧ s.romByte = 0#3 ∧ s.romFamily = 0x00#8 ∧
  (∀ (k : Nat) (h : k < 6), s.romSerial[k] = 0x00#8) ∧ s.romCrc = 0x00#8 ∧ s.tempAcc = 0x0000#16 ∧
  s.tempOut = 0x0000#16 ∧ s.familyOut = 0x00#8 ∧ s.spIdx = 0#4 ∧ s.seqState = .masterReset ∧
  s.resetIssued = false ∧ s.convTriggered = false ∧ s.owDriveLow = false ∧
  s.initialised = true ∧ s.refused = false ∧ s.faulted = false ∧ s.busTrace = [] ∧ s.cfg.wellFormed = true

/-- The launch state meets the invariants of R44 and the premises of R292. -/
def Obligations.ResetMeetsInvariants : Prop := Inv State.reset ∧ Launched State.reset

/-- R290: INIT, in every state, sets every register to its reset value, releases the line, leaves the bus trace as it is and
returns (FINISHED, NONE). -/
def Obligations.InitResetsEveryRegister : Prop :=
  ∀ s : State, exec .init s = .next
    { s with
      tickFlag := false, suspend := false
      pdState := .waitLow, pdCount := 0#3
      encMask := 0x01#8, txnState := .writing
      romPhase := .family, romBit := 0#3, romByte := 0#3
      romFamily := 0x00#8, romSerial := Vector.replicate 6 0x00#8, romCrc := 0x00#8
      tempAcc := 0x0000#16, tempOut := 0x0000#16, familyOut := 0x00#8
      spIdx := 0#4
      seqState := .masterReset, resetIssued := false, convTriggered := false
      owDriveLow := false
      initialised := true
      responses := s.responses ++ [⟨.finished, .none, .none, false, 0#16⟩] }

/-- R291, R50: every event but INIT is refused before the first INIT, the refusal is recorded, and once set the mark
`initialised` is never cleared. -/
def Obligations.EventsBeforeInitRefused : Prop :=
  (∀ (i : Instr) (s : State), i ≠ .init → s.initialised = false →
    exec i s = .refused .notInitialised ∧ (recordOutcome s (exec i s)).refused = true) ∧
  (∀ (i : Instr) (s t : State), exec i s = .next t → t.initialised = true)

/-- R50, R101: a stop is recorded, no event that completes changes a mark, a state with a mark set still has a mark set after
one step, and a configuration that violates R101 is refused.  That the refusal is `badConfiguration` also where a mark is set
is the model's order of checks (DESIGN CHOICE, log entry 9), as is that the run and not the step writes the record
(DEDUCED, log entry 9). -/
def Obligations.StopsAreKept : Prop :=
  (∀ s f, step s = .fault f → (advance s).faulted = true) ∧
  (∀ s r, step s = .refused r → (advance s).refused = true) ∧
  (∀ i s t, exec i s = .next t → t.refused = s.refused ∧ t.faulted = s.faulted) ∧
  (∀ s : State, s.refused = true ∨ s.faulted = true →
    (advance s).refused = true ∨ (advance s).faulted = true) ∧
  (∀ s : State, s.cfg.wellFormed = false → step s = .refused .badConfiguration)

/-- R306, R80: no event changes the configuration. -/
def Obligations.ConfigurationNeverChanges : Prop :=
  (∀ i s t, exec i s = .next t → t.cfg = s.cfg) ∧ (∀ s t, step s = .next t → t.cfg = s.cfg)

/-! ## TICK and the host reads -/

/-- R120: TICK sets `tick_flag`, and nothing else. -/
def Obligations.TickSetsFlag : Prop :=
  ∀ s : State, s.initialised = true → exec .tick s = .next { s with tickFlag := true }

/-- R121 (a): any number of TICKs, one or more, has the effect of one. -/
def Obligations.TicksMerge : Prop :=
  ∀ (n : Nat) (s : State), s.initialised = true →
    (List.replicate (n + 1) Instr.tick).foldl (fun o i => andThen o (exec i)) (.next s) = exec .tick s

/-- R240, R241: the host reads return the published values and change nothing. -/
def Obligations.HostReadsPublished : Prop :=
  ∀ s : State, s.initialised = true →
    exec .getTemp s = .next { s with responses := s.responses ++ [⟨.finished, .none, .none, false, s.tempOut⟩] } ∧
    exec .getFamily s =
      .next { s with responses := s.responses ++ [⟨.finished, .none, .none, false, s.familyOut.zeroExtend 16⟩] }

/-! ## The slot primitives -/

/-- R125, R126: W0 and W1 consume the tick, release the line and append their event; nothing else changes. -/
def Obligations.WriteSlotEffects : Prop :=
  ∀ s : State, s.initialised = true → s.tickFlag = true →
    exec .w0 s = .next { s with tickFlag := false, owDriveLow := false, busTrace := s.busTrace ++ [.w0] } ∧
    exec .w1 s = .next { s with tickFlag := false, owDriveLow := false, busTrace := s.busTrace ++ [.w1] }

/-- R127, R66: RD samples the line once, consumes the tick, releases the line and appends RD(b); nothing else changes.  The
bit is the next sample of the stream the run is paired with; past its end it is a free value (log entry 3). -/
def Obligations.ReadSlotEffect : Prop :=
  ∀ s : State, s.initialised = true → s.tickFlag = true →
    (∀ b bs, s.samples = b :: bs → exec .rd s =
      .next { s with tickFlag := false, owDriveLow := false, samples := bs, busTrace := s.busTrace ++ [.rd b] }) ∧
    (s.samples = [] → exec .rd s =
      .next { s with
        tickFlag := false, owDriveLow := false, lineDraws := s.lineDraws + 1
        busTrace := s.busTrace ++ [.rd (Config.lineLevel s.lineDraws)] })

/-- R128: RST ends with `suspend` and the tick clear and the line released, and appends RST; nothing else changes. -/
def Obligations.ResetPulseEffect : Prop :=
  ∀ s : State, s.initialised = true → s.tickFlag = true →
    exec .rst s =
      .next { s with suspend := false, tickFlag := false, owDriveLow := false, busTrace := s.busTrace ++ [.rst] }

/-- R123 (1): a primitive called without a tick faults. -/
def Obligations.PrimitiveWithoutTickFaults : Prop :=
  ∀ s : State, s.initialised = true → s.tickFlag = false →
    ∀ i ∈ [Instr.w0, Instr.w1, Instr.rd, Instr.rst], exec i s = .fault .noTick

/-- R123: what every primitive that completes has in common: a tick was pending and is consumed, the line is released, one
event is appended, and no other register is written. -/
def Obligations.SlotCommonContract : Prop :=
  ∀ i ∈ [Instr.w0, Instr.w1, Instr.rd, Instr.rst], ∀ s t : State, exec i s = .next t →
    s.tickFlag = true ∧
    (∃ ev, t.busTrace = s.busTrace ++ [ev]) ∧
    t = { s with
      tickFlag := false, owDriveLow := false
      suspend := if i = .rst then false else s.suspend
      busTrace := t.busTrace, samples := t.samples, lineDraws := t.lineDraws } ∧
    (i ≠ .rd → t.samples = s.samples ∧ t.lineDraws = s.lineDraws)

/-! ## STEP: the sequencer -/

/-- R230: a STEP without a pending tick returns PENDING with SLOT_NONE and changes no state. -/
def Obligations.IdleStepKeepsState : Prop :=
  ∀ s : State, s.initialised = true → s.seqState ≠ .invalid → s.tickFlag = false →
    exec .step s = .next { s with responses := s.responses ++ [⟨.pending, .none, .none, false, 0#16⟩] }

/-- R236, R262: in the invalid state STEP reports ERROR(INVALID_STATE) whether or not a tick is pending, performs no slot, and
returns the control registers to their reset values; `tick_flag`, the ROM record and the temperature registers are kept. -/
def Obligations.InvalidStateRecovers : Prop :=
  ∀ s : State, s.initialised = true → s.seqState = .invalid →
    exec .step s = .next
      { s with
        seqState := .masterReset, resetIssued := false, convTriggered := false
        txnState := .writing, encMask := 0x01#8
        pdState := .waitLow, pdCount := 0#3
        romPhase := .family, romBit := 0#3, romByte := 0#3
        spIdx := 0#4, suspend := false
        responses := s.responses ++ [⟨.error, .invalidState, .none, false, 0#16⟩] }

/-- R232: in MASTER_RESET with no reset issued, a progressing STEP performs RST and marks the reset issued. -/
def Obligations.SequencerIssuesResetPulse : Prop :=
  ∀ s : State, s.initialised = true → s.tickFlag = true → s.seqState = .masterReset → s.resetIssued = false →
    exec .step s = .next
      { s with
        suspend := false, tickFlag := false, owDriveLow := false, resetIssued := true
        busTrace := s.busTrace ++ [.rst]
        responses := s.responses ++ [⟨.pending, .none, .rst, false, 0#16⟩] }

/-- R129, R232, R261: in MASTER_RESET after the reset pulse, a progressing STEP takes one presence sample: ERROR with both
flags cleared on the sixth low in a row, a count on an earlier low, MASTER_READ_ROM on a high after a low, no change on a
leading high. -/
def Obligations.PresenceSampleOutcome : Prop :=
  ∀ s : State, s.initialised = true → s.tickFlag = true → s.seqState = .masterReset → s.resetIssued = true →
    s.pdState = .waitLow ∨ s.pdState = .countLow → s.pdCount ≤ 5#3 →
    let b := lineLevel s
    let u : State := { nextSample s with tickFlag := false, owDriveLow := false, busTrace := s.busTrace ++ [.rd b] }
    exec .step s = .next
      (if b = false then
        if s.pdCount = 5#3 then
          { u with
            pdState := .waitLow, pdCount := 0#3, resetIssued := false, convTriggered := false
            responses := s.responses ++ [⟨.error, .presenceTimeout, .rd, false, 0#16⟩] }
        else
          { u with
            pdState := .countLow, pdCount := s.pdCount + 1#3
            responses := s.responses ++ [⟨.pending, .none, .rd, false, 0#16⟩] }
      else if s.pdState = .countLow then
        { u with
          pdState := .waitLow, pdCount := 0#3, seqState := .masterReadRom
          responses := s.responses ++ [⟨.pending, .none, .rd, true, 0#16⟩] }
      else { u with responses := s.responses ++ [⟨.pending, .none, .rd, true, 0#16⟩] })

/-- R233: in MASTER_READ_ROM a progressing STEP runs one transaction step of READ ROM, always reports PENDING, and moves to
MASTER_TX_FN_COMMAND when the transaction finishes; that transaction never returns ERROR. -/
def Obligations.StepRunsReadRom : Prop :=
  ∀ s : State, RegsLegal s → s.initialised = true → s.tickFlag = true → s.seqState = .masterReadRom →
    ∃ d, txnStep s.cfg.opcReadRom s = .ok d ∧ d.status ≠ .error ∧
      exec .step s = .next
        { d.state with
          seqState := if d.status = .finished then .masterTxFnCommand else .masterReadRom
          responses := s.responses ++ [⟨.pending, .none, d.slot, d.sample, 0#16⟩] }

/-- R234: in MASTER_TX_FN_COMMAND with no conversion triggered, a progressing STEP runs one transaction step of CONVERT T,
always reports PENDING, and when the transaction finishes marks the conversion triggered, clears `reset_issued` and returns
to MASTER_RESET. -/
def Obligations.StepRunsTrigger : Prop :=
  ∀ s : State, RegsLegal s → s.initialised = true → s.tickFlag = true → s.seqState = .masterTxFnCommand →
    s.convTriggered = false →
    ∃ d, txnStep s.cfg.opcConvertT s = .ok d ∧
      exec .step s = .next
        (if d.status = .finished then
          { d.state with
            convTriggered := true, resetIssued := false, seqState := .masterReset
            responses := s.responses ++ [⟨.pending, .none, d.slot, d.sample, 0#16⟩] }
        else { d.state with responses := s.responses ++ [⟨.pending, .none, d.slot, d.sample, 0#16⟩] })

/-- R235: in MASTER_TX_FN_COMMAND with the conversion triggered, a progressing STEP runs one transaction step of READ
SCRATCHPAD; when it finishes, the accumulator is shifted right by 4 and published, both flags are cleared, the state is
MASTER_RESET and the STEP reports FINISHED; else it reports PENDING. -/
def Obligations.StepRunsReadBack : Prop :=
  ∀ s : State, RegsLegal s → s.initialised = true → s.tickFlag = true → s.seqState = .masterTxFnCommand →
    s.convTriggered = true →
    ∃ d, txnStep s.cfg.opcReadScratchpad s = .ok d ∧
      exec .step s = .next
        (if d.status = .finished then
          { d.state with
            tempAcc := d.state.tempAcc.sshiftRight 4, tempOut := d.state.tempAcc.sshiftRight 4
            resetIssued := false, convTriggered := false, seqState := .masterReset
            responses := s.responses ++ [⟨.finished, .none, d.slot, d.sample, 0#16⟩] }
        else { d.state with responses := s.responses ++ [⟨.pending, .none, d.slot, d.sample, 0#16⟩] })

/-- What a STEP leaves unchanged in each sequencer state (the "State written" lists of R230 and R232 to R235): only the fields
named for the state may differ.  The marks, the configuration and the inputs still to come are named in none. -/
def Obligations.StepFrame : Prop :=
  ∀ s t : State, s.cfg.wellFormed = true → exec .step s = .next t →
    (s.seqState = .masterReset →
      t = { s with
        tickFlag := t.tickFlag, owDriveLow := t.owDriveLow, suspend := t.suspend, busTrace := t.busTrace
        samples := t.samples, lineDraws := t.lineDraws, responses := t.responses
        pdState := t.pdState, pdCount := t.pdCount
        seqState := t.seqState, resetIssued := t.resetIssued, convTriggered := t.convTriggered }) ∧
    (s.seqState = .masterReadRom →
      t = { s with
        tickFlag := t.tickFlag, owDriveLow := t.owDriveLow, busTrace := t.busTrace
        samples := t.samples, lineDraws := t.lineDraws, responses := t.responses
        encMask := t.encMask, txnState := t.txnState
        romPhase := t.romPhase, romBit := t.romBit, romByte := t.romByte
        romFamily := t.romFamily, romSerial := t.romSerial, romCrc := t.romCrc, familyOut := t.familyOut
        seqState := t.seqState }) ∧
    (s.seqState = .masterTxFnCommand → s.convTriggered = false →
      t = { s with
        tickFlag := t.tickFlag, owDriveLow := t.owDriveLow, busTrace := t.busTrace
        samples := t.samples, lineDraws := t.lineDraws, responses := t.responses
        encMask := t.encMask, txnState := t.txnState
        seqState := t.seqState, resetIssued := t.resetIssued, convTriggered := t.convTriggered }) ∧
    (s.seqState = .masterTxFnCommand → s.convTriggered = true →
      t = { s with
        tickFlag := t.tickFlag, owDriveLow := t.owDriveLow, suspend := t.suspend, busTrace := t.busTrace
        samples := t.samples, lineDraws := t.lineDraws, responses := t.responses
        encMask := t.encMask, txnState := t.txnState
        tempAcc := t.tempAcc, spIdx := t.spIdx, tempOut := t.tempOut
        seqState := t.seqState, resetIssued := t.resetIssued, convTriggered := t.convTriggered })

/-- R231, R95: a progressing STEP that writes sends the masked bit of the code that the sequencer's state selects. -/
def Obligations.SequencerSelectsCode : Prop :=
  ∀ (s : State) (opc : Byte), s.initialised = true → s.tickFlag = true → isOneHot s.encMask = true →
    s.txnState = .writing →
    (s.seqState = .masterReadRom ∧ opc = s.cfg.opcReadRom ∨
     s.seqState = .masterTxFnCommand ∧ s.convTriggered = false ∧ opc = s.cfg.opcConvertT ∨
     s.seqState = .masterTxFnCommand ∧ s.convTriggered = true ∧ opc = s.cfg.opcReadScratchpad) →
    selOpc s = some opc ∧
    ∃ t, exec .step s = .next t ∧
      t.busTrace = s.busTrace ++ [if opc &&& s.encMask ≠ 0#8 then .w1 else .w0]

/-! ## The transaction layer: the nine instruction codes -/

/-- R210, R150: in WRITING, each of the nine codes sends its masked bit; the mask shifts left, and after the 8th bit wraps and
the transaction switches to READING.  The status is PENDING each time.  The direct call and its response are log entry 1. -/
def Obligations.TransactionSendsMaskedBit : Prop :=
  ∀ (i : Instr) (opc : Byte) (s : State), lineCode s.cfg i = some opc →
    s.initialised = true → s.tickFlag = true → s.txnState = .writing → isOneHot s.encMask = true →
    let bit : Bool := (opc &&& s.encMask) != 0#8
    let u : State :=
      { s with
        tickFlag := false, owDriveLow := false
        busTrace := s.busTrace ++ [if bit then .w1 else .w0]
        responses := s.responses ++ [⟨.pending, .none, if bit then .w1 else .w0, false, 0#16⟩] }
    exec i s = .next
      (if s.encMask = 0x80#8 then { u with encMask := 0x01#8, txnState := .reading }
       else { u with encMask := s.encMask <<< 1 })

/-- A transaction step called without a pending tick returns PENDING with SLOT_NONE and changes no state (X6: no spurious
progress).  That it is idle and not a fault is the model's choice (log entry 8). -/
def Obligations.TransactionIdleWithoutTick : Prop :=
  ∀ (i : Instr) (opc : Byte) (s : State), lineCode s.cfg i = some opc → s.initialised = true → s.tickFlag = false →
    exec i s = .next { s with responses := s.responses ++ [⟨.pending, .none, .none, false, 0#16⟩] }

/-- R182, R183, R184, R211: in READING, READ ROM stores the sampled bit at `rom_bit` of the field that `rom_phase` selects
(bit 0 clears the byte first), and the 64th bit publishes the family code and finishes the transaction.  The direct call and
its response are log entry 1. -/
def Obligations.ReadRomReplyStep : Prop :=
  ∀ s : State, s.cfg.wellFormed = true → s.initialised = true → s.tickFlag = true → s.txnState = .reading →
    s.romByte ≤ 5#3 →
    let b := lineLevel s
    let u : State := { nextSample s with tickFlag := false, owDriveLow := false, busTrace := s.busTrace ++ [.rd b] }
    let p : State := { u with responses := s.responses ++ [⟨.pending, .none, .rd, b, 0#16⟩] }
    let f : State := { u with responses := s.responses ++ [⟨.finished, .none, .rd, b, 0#16⟩] }
    let put (field : Byte) : Byte := (if s.romBit = 0#3 then 0x00#8 else field) ||| ((BitVec.ofBool b).zeroExtend 8 <<< s.romBit.toNat)
    (s.romPhase = .family → exec .readRom s = .next
      (if s.romBit = 7#3 then { p with romFamily := put s.romFamily, romBit := 0#3, romPhase := .serial }
       else { p with romFamily := put s.romFamily, romBit := s.romBit + 1#3 })) ∧
    (s.romPhase = .serial → ∃ v : Vector Byte 6,
      (∀ (k : Nat) (h : k < 6), v[k] = if k = s.romByte.toNat then put s.romSerial[k] else s.romSerial[k]) ∧
      exec .readRom s = .next
        (if s.romBit = 7#3 then
          if s.romByte = 5#3 then { p with romSerial := v, romBit := 0#3, romByte := 0#3, romPhase := .crc }
          else { p with romSerial := v, romBit := 0#3, romByte := s.romByte + 1#3 }
         else { p with romSerial := v, romBit := s.romBit + 1#3 })) ∧
    (s.romPhase = .crc → exec .readRom s = .next
      (if s.romBit = 7#3 then
        { f with
          romCrc := put s.romCrc, romBit := 0#3, romPhase := .family, familyOut := s.romFamily, txnState := .writing }
       else { p with romCrc := put s.romCrc, romBit := s.romBit + 1#3 }))

/-- R213: in READING, CONVERT T samples one busy/ready bit: a 1 finishes the transaction, a 0 leaves it PENDING.
The direct call and its response are log entry 1. -/
def Obligations.ConvertReplyPoll : Prop :=
  ∀ s : State, s.initialised = true → s.tickFlag = true → s.txnState = .reading →
    let b := lineLevel s
    let u : State := { nextSample s with tickFlag := false, owDriveLow := false, busTrace := s.busTrace ++ [.rd b] }
    exec .convertT s = .next
      (if b = true then
        { u with txnState := .writing, responses := s.responses ++ [⟨.finished, .none, .rd, true, 0#16⟩] }
       else { u with responses := s.responses ++ [⟨.pending, .none, .rd, false, 0#16⟩] })

/-- R186, R187, R211: in READING, READ SCRATCHPAD stores the sampled bit at `sp_idx` of the accumulator (index 0 clears it
first); at `sp_idx = 15` it performs RST instead and finishes the transaction, the accumulator unchanged.  The direct call and its
response are log entry 1. -/
def Obligations.ScratchpadReplyStep : Prop :=
  ∀ s : State, s.cfg.wellFormed = true → s.initialised = true → s.tickFlag = true → s.txnState = .reading →
    let b := lineLevel s
    (s.spIdx ≠ 15#4 → exec .readScratchpad s = .next
      { nextSample s with
        tickFlag := false, owDriveLow := false, busTrace := s.busTrace ++ [.rd b]
        tempAcc := (if s.spIdx = 0#4 then 0x0000#16 else s.tempAcc) ||| ((BitVec.ofBool b).zeroExtend 16 <<< s.spIdx.toNat)
        spIdx := s.spIdx + 1#4
        responses := s.responses ++ [⟨.pending, .none, .rd, b, 0#16⟩] }) ∧
    (s.spIdx = 15#4 → exec .readScratchpad s = .next
      { s with
        tickFlag := false, suspend := false, owDriveLow := false, busTrace := s.busTrace ++ [.rst]
        spIdx := 0#4, txnState := .writing
        responses := s.responses ++ [⟨.finished, .none, .rst, false, 0#16⟩] })

/-- R189, R211, R263: in READING, a code that is none of the three with a reply consumes one bit, returns to WRITING and
reports ERROR(UNSUPPORTED_REPLY); no field is written.  Holding this path, which U3 admits beside a refusal, is the model's
choice (DESIGN CHOICE, log entry 1). -/
def Obligations.UnsupportedReplyError : Prop :=
  ∀ (i : Instr) (opc : Byte) (s : State), lineCode s.cfg i = some opc →
    opc ≠ s.cfg.opcReadRom → opc ≠ s.cfg.opcConvertT → opc ≠ s.cfg.opcReadScratchpad →
    s.initialised = true → s.tickFlag = true → s.txnState = .reading →
    let b := lineLevel s
    exec i s = .next
      { nextSample s with
        tickFlag := false, owDriveLow := false, busTrace := s.busTrace ++ [.rd b], txnState := .writing
        responses := s.responses ++ [⟨.error, .unsupportedReply, .rd, b, 0#16⟩] }

/-- R190, U1: a register that holds a reserved value is a fault in the sub-machine that uses it, and is given no value: the
presence machine's registers in MASTER_RESET after the reset pulse, the mask in WRITING, and the ROM builder's registers in
READING after READ ROM.  When each fault is met is log entry 10. -/
def Obligations.ReservedRegistersFault : Prop :=
  ∀ s : State, s.cfg.wellFormed = true → s.initialised = true → s.tickFlag = true →
    (s.seqState = .masterReset → s.resetIssued = true →
      (s.pdState = .terminal ∨ s.pdState = .reserved → exec .step s = .fault .pdStateReserved) ∧
      (s.pdState = .waitLow ∨ s.pdState = .countLow → s.pdCount = 6#3 ∨ s.pdCount = 7#3 →
        exec .step s = .fault .pdCountOutOfRange)) ∧
    (s.txnState = .writing → isOneHot s.encMask = false →
      (∀ i opc, lineCode s.cfg i = some opc → exec i s = .fault .encMaskNotOneHot) ∧
      (s.seqState = .masterReadRom ∨ s.seqState = .masterTxFnCommand → exec .step s = .fault .encMaskNotOneHot)) ∧
    (s.txnState = .reading →
      (s.romPhase = .reserved →
        exec .readRom s = .fault .romPhaseReserved ∧
        (s.seqState = .masterReadRom → exec .step s = .fault .romPhaseReserved)) ∧
      (s.romPhase ≠ .reserved → s.romByte = 6#3 ∨ s.romByte = 7#3 →
        exec .readRom s = .fault .romByteOutOfRange ∧
        (s.seqState = .masterReadRom → exec .step s = .fault .romByteOutOfRange)))

/-! ## Invariants -/

/-- The registers' legal values (R44 items 1 to 6, R102) are kept by every instruction, from every state that has them. -/
def Obligations.LegalRegistersKept : Prop :=
  ∀ (i : Instr) (s t : State), RegsLegal s → exec i s = .next t → RegsLegal t

/-- From every initialised state with legal registers every instruction answers a next state; the four primitives need a
pending tick (R123).  No reserved value, and so no fault, is in the way (R190).  Two parts are the model's and no rule of the
spec: the six codes without a reply decoder complete, on the path of R189, where R279 says to refuse them and U3 admits either
(DESIGN CHOICE, log entry 1); and the nine codes complete without a pending tick, as idle calls (DEDUCED, log entry 8). -/
def Obligations.LegalStatesComplete : Prop :=
  ∀ (i : Instr) (s : State), RegsLegal s → s.initialised = true →
    (i ∈ [Instr.w0, Instr.w1, Instr.rd, Instr.rst] → s.tickFlag = true) → ∃ t, exec i s = .next t

/-- R44: the twelve invariants are kept by every step of a launched machine, whatever the state they held in. -/
def Obligations.StepKeepsInvariants : Prop :=
  ∀ s t : State, Inv s → Launched s → step s = .next t → Inv t ∧ Launched t

/-- R44: the twelve invariants hold in every state reachable from the launch state by the events of a script, for every
configuration that meets R101, every script and every sample stream.  It is the run form of `StepKeepsInvariants`. -/
def Obligations.ReachableStatesMeetInvariants : Prop :=
  ∀ (n : Nat) (c : Config) (script : List Line) (stream : List Bool) (t : State), c.wellFormed = true →
    Host.Core.run Sys2Proof.core n { launch script stream with cfg := c } = .next t → Inv t ∧ Launched t

/-- No event of a script makes a launched machine that meets the invariants stop. -/
def Obligations.LaunchedMachineNeverStops : Prop :=
  ∀ s : State, Inv s → Launched s → ∃ t, step s = .next t

/-! ## Whole-machine rules -/

/-- R238: a progressing STEP emits exactly one bus event and consumes the tick; every other STEP emits none and keeps the
tick. -/
def Obligations.OneSlotPerProgressingStep : Prop :=
  ∀ s t : State, exec .step s = .next t →
    (s.tickFlag = true ∧ s.seqState ≠ .invalid → (∃ ev, t.busTrace = s.busTrace ++ [ev]) ∧ t.tickFlag = false) ∧
    (¬(s.tickFlag = true ∧ s.seqState ≠ .invalid) → t.busTrace = s.busTrace ∧ t.tickFlag = s.tickFlag)

/-- R67, R123: nothing removes from the bus trace, an event appends at most one entry, an entry is appended only by consuming
a pending tick, and INIT, TICK and the host reads append none. -/
def Obligations.TraceGrowsBySlotsOnly : Prop :=
  ∀ (i : Instr) (s t : State), exec i s = .next t →
    (t.busTrace = s.busTrace ∨
      (∃ ev, t.busTrace = s.busTrace ++ [ev]) ∧ s.tickFlag = true ∧ t.tickFlag = false) ∧
    (i ∈ [Instr.init, Instr.tick, Instr.getTemp, Instr.getFamily] → t.busTrace = s.busTrace)

/-- R36, R71: `temp_out` changes only by INIT and in the STEP that completes a read-back, and `family_out` only by INIT and in
the event that stores the last CRC bit of a ROM read. -/
def Obligations.PublishedValuesChangeOnCompletion : Prop :=
  ∀ (i : Instr) (s t : State), s.cfg.wellFormed = true → exec i s = .next t →
    (t.tempOut ≠ s.tempOut → i = .init ∨
      i = .step ∧ s.tickFlag = true ∧ s.seqState = .masterTxFnCommand ∧ s.convTriggered = true ∧
        s.txnState = .reading ∧ s.spIdx = 15#4 ∧ t.tempOut = s.tempAcc.sshiftRight 4) ∧
    (t.familyOut ≠ s.familyOut → i = .init ∨
      (i = .step ∧ s.seqState = .masterReadRom ∨ lineCode s.cfg i = some s.cfg.opcReadRom) ∧ s.tickFlag = true ∧
        s.txnState = .reading ∧ s.romPhase = .crc ∧ s.romBit = 7#3 ∧ t.familyOut = s.romFamily)

/-- R34, R191: the ROM record is written only by INIT and by the ROM builder, in an event that reads a bit of a READ ROM
reply. -/
def Obligations.RomRecordWriters : Prop :=
  ∀ (i : Instr) (s t : State), s.cfg.wellFormed = true → exec i s = .next t →
    (t.romFamily ≠ s.romFamily ∨ t.romSerial ≠ s.romSerial ∨ t.romCrc ≠ s.romCrc) → i = .init ∨
      (i = .step ∧ s.seqState = .masterReadRom ∨ lineCode s.cfg i = some s.cfg.opcReadRom) ∧
        s.tickFlag = true ∧ s.txnState = .reading

/-- R237: a STEP returns one response; it is FINISHED exactly in the completing STEP of the read-back, ERROR exactly on a
presence timeout and in the invalid state, and PENDING otherwise. -/
def Obligations.StepStatusLaw : Prop :=
  ∀ s t : State, s.cfg.wellFormed = true → exec .step s = .next t →
    ∃ r, t.responses = s.responses ++ [r] ∧
      (r.status = .finished ↔
        s.tickFlag = true ∧ s.seqState = .masterTxFnCommand ∧ s.convTriggered = true ∧ s.txnState = .reading ∧
          s.spIdx = 15#4) ∧
      (r.status = .error ↔
        s.seqState = .invalid ∨
        s.tickFlag = true ∧ s.seqState = .masterReset ∧ s.resetIssued = true ∧ lineLevel s = false ∧ s.pdCount = 5#3)

/-- R264, R97: which error each event can report: STEP only INVALID_STATE, in the invalid state, and PRESENCE_TIMEOUT, in
MASTER_RESET; INIT, GET_TEMP and GET_FAMILY none; TICK gives no response; and a cause is NONE unless the status is ERROR. -/
def Obligations.ErrorSources : Prop :=
  (∀ s t : State, exec .step s = .next t → ∃ r, t.responses = s.responses ++ [r] ∧
    (r.status = .error ↔ r.cause ≠ .none) ∧ r.cause ≠ .unsupportedReply ∧
    (r.cause = .invalidState ↔ s.seqState = .invalid) ∧ (r.cause = .presenceTimeout → s.seqState = .masterReset)) ∧
  (∀ i ∈ [Instr.init, Instr.getTemp, Instr.getFamily], ∀ s t : State, exec i s = .next t →
    ∃ r, t.responses = s.responses ++ [r] ∧ r.status = .finished ∧ r.cause = .none ∧ r.slot = .none) ∧
  (∀ s t : State, exec .tick s = .next t → t.responses = s.responses)

/-- R191, R46: no event reads the serial number or the CRC: two states that differ only in them answer alike and lead to
states that differ only in them. -/
def Obligations.SerialAndCrcNeverRead : Prop :=
  ∀ (i : Instr) (s t : State) (serial : Vector Byte 6) (crc : Byte), exec i s = .next t →
    ∃ (serial' : Vector Byte 6) (crc' : Byte),
      exec i { s with romSerial := serial, romCrc := crc } = .next { t with romSerial := serial', romCrc := crc' }

/-- R307: the progressing STEP after the one that finishes a round performs RST again. -/
def Obligations.BackToBackResets : Prop :=
  ∀ (s t : State) (r : Response), s.cfg.wellFormed = true → exec .step s = .next t →
    t.responses = s.responses ++ [r] → r.status = .finished →
    t.busTrace = s.busTrace ++ [.rst] ∧ ∃ u, tstep t = .next u ∧ u.busTrace = t.busTrace ++ [.rst]

/-- R261, R312: after a presence timeout the conversion trigger is lost, and the next progressing STEP issues a new reset
pulse. -/
def Obligations.PresenceTimeoutRestarts : Prop :=
  ∀ (s t : State) (r : Response), exec .step s = .next t → t.responses = s.responses ++ [r] →
    r.cause = .presenceTimeout →
    r.slot = .rd ∧ r.sample = false ∧ t.seqState = .masterReset ∧ t.resetIssued = false ∧ t.convTriggered = false ∧
    t.pdState = .waitLow ∧ t.pdCount = 0#3 ∧
    ∃ u, tstep t = .next u ∧ u.busTrace = t.busTrace ++ [.rst] ∧ u.resetIssued = true ∧ u.convTriggered = false

/-! ## The laws of the sub-machines and of a round -/

/-- R160: eight encoder steps from mask 0x01 send the eight bits of any code, least significant first, with PENDING seven
times and then FINISHED, and the mask is 0x01 again. -/
def Obligations.SerializerSendsBitsInOrder : Prop :=
  ∀ (opc : Byte) (s : State), s.encMask = 0x01#8 →
    ∃ t, calls (encStep opc) 8 s = .ok (List.replicate 7 .pending ++ [.finished], t) ∧
      t.busTrace = s.busTrace ++ (List.range 8).map (fun k => if opc.getLsbD k then .w1 else .w0) ∧
      t.encMask = 0x01#8

/-- R185, R63: 64 builder steps from the builder's reset state, on any 64 samples and whatever the record held, return PENDING
63 times and then FINISHED, leave the three fields as the stream lays them out, publish the family code, and leave the
builder in its reset state. -/
def Obligations.RomBuilderReconstructs : Prop :=
  ∀ (s : State) (stream rest : List Bool), stream.length = 64 → s.samples = stream ++ rest →
    s.romPhase = .family → s.romBit = 0#3 → s.romByte = 0#3 →
    ∃ t, calls romStep 64 s = .ok (List.replicate 63 .pending ++ [.finished], t) ∧
      (∀ j, j < 8 → t.romFamily.getLsbD j = stream.getD j false) ∧
      (∀ (k : Nat) (h : k < 6), ∀ j, j < 8 → t.romSerial[k].getLsbD j = stream.getD (8 + 8 * k + j) false) ∧
      (∀ j, j < 8 → t.romCrc.getLsbD j = stream.getD (56 + j) false) ∧
      t.romPhase = .family ∧ t.romBit = 0#3 ∧ t.romByte = 0#3 ∧ t.familyOut = t.romFamily ∧ t.samples = rest

/-- R188, R64: 16 accumulator steps from index 0 on any 15 samples return PENDING 15 times and then FINISHED with RST; the
accumulator then holds the number the 15 bits stand for, below 2^15, and its shift is that number divided by 16. -/
def Obligations.ScratchpadAccumulates : Prop :=
  ∀ (s : State) (stream rest : List Bool), stream.length = 15 → s.samples = stream ++ rest → s.spIdx = 0#4 →
    ∃ t, calls spStep 16 s = .ok (List.replicate 15 .pending ++ [.finished], t) ∧
      t.busTrace = s.busTrace ++ stream.map .rd ++ [.rst] ∧
      t.tempAcc.toNat = streamValue stream ∧ t.tempAcc.toNat ≤ 0x7FFF ∧ t.spIdx = 0#4 ∧
      (t.tempAcc.sshiftRight 4).toNat = streamValue stream / 16 ∧ t.samples = rest

/-- R212: the length of each of the three transactions, with its statuses and its slots; each ends back in WRITING with the
mask and the decoder indices at their reset values. -/
def Obligations.TransactionLengths : Prop :=
  ∀ s : State, s.cfg.wellFormed = true → s.txnState = .writing → s.encMask = 0x01#8 →
    s.romPhase = .family → s.romBit = 0#3 → s.romByte = 0#3 → s.spIdx = 0#4 →
    let ends (t : State) (rest : List Bool) := t.txnState = .writing ∧ t.encMask = 0x01#8 ∧ t.romPhase = .family ∧
      t.romBit = 0#3 ∧ t.romByte = 0#3 ∧ t.spIdx = 0#4 ∧ t.samples = rest
    (∀ stream rest, stream.length = 64 → s.samples = stream ++ rest →
      ∃ t, calls (txnStep s.cfg.opcReadRom) 72 s = .ok (List.replicate 71 .pending ++ [.finished], t) ∧
        t.busTrace = s.busTrace ++ codeSlots s.cfg.opcReadRom ++ stream.map .rd ∧ ends t rest) ∧
    (∀ k rest, 1 ≤ k → s.samples = readyBits k ++ rest →
      ∃ t, calls (txnStep s.cfg.opcConvertT) (8 + k) s = .ok (List.replicate (7 + k) .pending ++ [.finished], t) ∧
        t.busTrace = s.busTrace ++ codeSlots s.cfg.opcConvertT ++ (readyBits k).map .rd ∧ ends t rest) ∧
    (∀ stream rest, stream.length = 15 → s.samples = stream ++ rest →
      ∃ t, calls (txnStep s.cfg.opcReadScratchpad) 24 s = .ok (List.replicate 23 .pending ++ [.finished], t) ∧
        t.busTrace = s.busTrace ++ codeSlots s.cfg.opcReadScratchpad ++ stream.map .rd ++ [.rst] ∧ ends t rest)

/-- R130: while the line is sampled high before any low, the presence machine answers PENDING without bound and keeps its
state. -/
def Obligations.PresenceHangsOnHighLine : Prop :=
  ∀ (n : Nat) (s : State) (rest : List Bool), s.samples = List.replicate n true ++ rest →
    s.pdState = .waitLow → s.pdCount = 0#3 →
    ∃ t, calls presenceStep n s = .ok (List.replicate n .pending, t) ∧ t.pdState = .waitLow ∧ t.pdCount = 0#3 ∧
      t.samples = rest

/-- R213, R303: while the device answers busy, the ready poll answers PENDING without bound and the transaction stays in
READING. -/
def Obligations.ReadyPollHangsOnBusy : Prop :=
  ∀ (n : Nat) (s : State) (rest : List Bool), s.samples = List.replicate n false ++ rest → s.txnState = .reading →
    ∃ t, calls (txnStep s.cfg.opcConvertT) n s = .ok (List.replicate n .pending, t) ∧ t.txnState = .reading ∧
      t.samples = rest

/-- R239: a round of progressing STEPs from a state whose control registers are at their reset values, for every answer of the
environment that R239 allows: the bus trace of the two cycles, FINISHED exactly once and at the last slot, the control
registers back at their reset values, the temperature published as the raw value divided by 16, and the family code of the
second cycle. -/
def Obligations.RoundTrace : Prop :=
  ∀ (s : State) (h1 m1 k h2 m2 : Nat) (rom1 rom2 raw rest : List Bool),
    s.cfg.wellFormed = true → s.initialised = true → atRest s →
    1 ≤ m1 → m1 ≤ 5 → 1 ≤ m2 → m2 ≤ 5 → 1 ≤ k →
    rom1.length = 64 → rom2.length = 64 → raw.length = 15 →
    s.samples = presenceBits h1 m1 ++ rom1 ++ readyBits k ++ presenceBits h2 m2 ++ rom2 ++ raw ++ rest →
    let n := (1 + (h1 + m1 + 1) + 8 + 64 + 8 + k) + (1 + (h2 + m2 + 1) + 8 + 64 + 8 + 15 + 1)
    ∃ t rs, tsteps n s = .next t ∧
      t.busTrace = s.busTrace ++
        ([.rst] ++ (presenceBits h1 m1).map .rd ++ codeSlots s.cfg.opcReadRom ++ rom1.map .rd ++
          codeSlots s.cfg.opcConvertT ++ (readyBits k).map .rd) ++
        ([.rst] ++ (presenceBits h2 m2).map .rd ++ codeSlots s.cfg.opcReadRom ++ rom2.map .rd ++
          codeSlots s.cfg.opcReadScratchpad ++ raw.map .rd ++ [.rst]) ∧
      t.responses = s.responses ++ rs ∧ rs.map Response.status = List.replicate (n - 1) .pending ++ [.finished] ∧
      atRest t ∧ t.tempOut.toNat = streamValue raw / 16 ∧ t.familyOut.toNat = streamValue (rom2.take 8) ∧
      t.samples = rest
end

