-- ==== Sys2Proof/Laws/Decode.lean ====
section
/-! SUPPORT. What uniqueness of a code rules out, and what an accepted word of each format is. -/

namespace Sys2Proof

/-- A code that stands once among the nine is none of those before it in the table. -/
theorem Config.unique_before {c : Config} {opc : Byte} {before after : List Byte} (hs : c.codes = before ++ opc :: after)
    (h : c.unique opc = true) : opc ∉ before := by
  intro hm
  have h1 : 1 ≤ before.count opc := List.count_pos_iff.mpr hm
  simp only [Config.unique, hs, List.count_append, List.count_cons_self, beq_iff_eq] at h
  omega

/-- R101 as three inequalities. -/
theorem Config.wellFormed_ne {c : Config} (h : c.wellFormed = true) :
    c.opcReadRom ≠ c.opcConvertT ∧ c.opcReadRom ≠ c.opcReadScratchpad ∧ c.opcConvertT ≠ c.opcReadScratchpad := by
  simpa [Config.wellFormed, and_assoc] using h

/-- An accepted host word is the word of the command read from it. -/
theorem encode_decodeHost (c : Config) (cmd : BitVec 2) : encode c (decodeHost cmd) = .hostCmd2 cmd := by
  revert cmd
  have key : ∀ cmd : BitVec 2,
      (cmd = 0b00#2 ∨ cmd = 0b01#2 ∨ cmd = 0b10#2 ∨ cmd = 0b11#2) := by decide
  intro cmd
  obtain rfl | rfl | rfl | rfl := key cmd <;> rfl

end Sys2Proof
end

