-- ==== Sys2Proof/Laws/State.lean ====
section
/-! SUPPORT. One lemma for each field of State and each named update of it: what the field holds after the update. -/

namespace Sys2Proof.Machine

variable (s : State)

/-! setTick -/

@[simp] theorem setTick_tickFlag : (setTick s).tickFlag = true := rfl
@[simp] theorem setTick_suspend : (setTick s).suspend = s.suspend := rfl
@[simp] theorem setTick_pdState : (setTick s).pdState = s.pdState := rfl
@[simp] theorem setTick_pdCount : (setTick s).pdCount = s.pdCount := rfl
@[simp] theorem setTick_encMask : (setTick s).encMask = s.encMask := rfl
@[simp] theorem setTick_txnState : (setTick s).txnState = s.txnState := rfl
@[simp] theorem setTick_romPhase : (setTick s).romPhase = s.romPhase := rfl
@[simp] theorem setTick_romBit : (setTick s).romBit = s.romBit := rfl
@[simp] theorem setTick_romByte : (setTick s).romByte = s.romByte := rfl
@[simp] theorem setTick_romFamily : (setTick s).romFamily = s.romFamily := rfl
@[simp] theorem setTick_romSerial : (setTick s).romSerial = s.romSerial := rfl
@[simp] theorem setTick_romCrc : (setTick s).romCrc = s.romCrc := rfl
@[simp] theorem setTick_tempAcc : (setTick s).tempAcc = s.tempAcc := rfl
@[simp] theorem setTick_tempOut : (setTick s).tempOut = s.tempOut := rfl
@[simp] theorem setTick_familyOut : (setTick s).familyOut = s.familyOut := rfl
@[simp] theorem setTick_spIdx : (setTick s).spIdx = s.spIdx := rfl
@[simp] theorem setTick_seqState : (setTick s).seqState = s.seqState := rfl
@[simp] theorem setTick_resetIssued : (setTick s).resetIssued = s.resetIssued := rfl
@[simp] theorem setTick_convTriggered : (setTick s).convTriggered = s.convTriggered := rfl
@[simp] theorem setTick_owDriveLow : (setTick s).owDriveLow = s.owDriveLow := rfl
@[simp] theorem setTick_initialised : (setTick s).initialised = s.initialised := rfl
@[simp] theorem setTick_refused : (setTick s).refused = s.refused := rfl
@[simp] theorem setTick_faulted : (setTick s).faulted = s.faulted := rfl
@[simp] theorem setTick_cfg : (setTick s).cfg = s.cfg := rfl
@[simp] theorem setTick_busTrace : (setTick s).busTrace = s.busTrace := rfl
@[simp] theorem setTick_responses : (setTick s).responses = s.responses := rfl
@[simp] theorem setTick_samples : (setTick s).samples = s.samples := rfl
@[simp] theorem setTick_lineDraws : (setTick s).lineDraws = s.lineDraws := rfl
@[simp] theorem setTick_pending : (setTick s).pending = s.pending := rfl
@[simp] theorem setTick_orderDraws : (setTick s).orderDraws = s.orderDraws := rfl

/-! clearTick -/

@[simp] theorem clearTick_tickFlag : (clearTick s).tickFlag = false := rfl
@[simp] theorem clearTick_suspend : (clearTick s).suspend = s.suspend := rfl
@[simp] theorem clearTick_pdState : (clearTick s).pdState = s.pdState := rfl
@[simp] theorem clearTick_pdCount : (clearTick s).pdCount = s.pdCount := rfl
@[simp] theorem clearTick_encMask : (clearTick s).encMask = s.encMask := rfl
@[simp] theorem clearTick_txnState : (clearTick s).txnState = s.txnState := rfl
@[simp] theorem clearTick_romPhase : (clearTick s).romPhase = s.romPhase := rfl
@[simp] theorem clearTick_romBit : (clearTick s).romBit = s.romBit := rfl
@[simp] theorem clearTick_romByte : (clearTick s).romByte = s.romByte := rfl
@[simp] theorem clearTick_romFamily : (clearTick s).romFamily = s.romFamily := rfl
@[simp] theorem clearTick_romSerial : (clearTick s).romSerial = s.romSerial := rfl
@[simp] theorem clearTick_romCrc : (clearTick s).romCrc = s.romCrc := rfl
@[simp] theorem clearTick_tempAcc : (clearTick s).tempAcc = s.tempAcc := rfl
@[simp] theorem clearTick_tempOut : (clearTick s).tempOut = s.tempOut := rfl
@[simp] theorem clearTick_familyOut : (clearTick s).familyOut = s.familyOut := rfl
@[simp] theorem clearTick_spIdx : (clearTick s).spIdx = s.spIdx := rfl
@[simp] theorem clearTick_seqState : (clearTick s).seqState = s.seqState := rfl
@[simp] theorem clearTick_resetIssued : (clearTick s).resetIssued = s.resetIssued := rfl
@[simp] theorem clearTick_convTriggered : (clearTick s).convTriggered = s.convTriggered := rfl
@[simp] theorem clearTick_owDriveLow : (clearTick s).owDriveLow = s.owDriveLow := rfl
@[simp] theorem clearTick_initialised : (clearTick s).initialised = s.initialised := rfl
@[simp] theorem clearTick_refused : (clearTick s).refused = s.refused := rfl
@[simp] theorem clearTick_faulted : (clearTick s).faulted = s.faulted := rfl
@[simp] theorem clearTick_cfg : (clearTick s).cfg = s.cfg := rfl
@[simp] theorem clearTick_busTrace : (clearTick s).busTrace = s.busTrace := rfl
@[simp] theorem clearTick_responses : (clearTick s).responses = s.responses := rfl
@[simp] theorem clearTick_samples : (clearTick s).samples = s.samples := rfl
@[simp] theorem clearTick_lineDraws : (clearTick s).lineDraws = s.lineDraws := rfl
@[simp] theorem clearTick_pending : (clearTick s).pending = s.pending := rfl
@[simp] theorem clearTick_orderDraws : (clearTick s).orderDraws = s.orderDraws := rfl

/-! setSuspend -/

@[simp] theorem setSuspend_tickFlag (v : Bool) : (setSuspend v s).tickFlag = s.tickFlag := rfl
@[simp] theorem setSuspend_suspend (v : Bool) : (setSuspend v s).suspend = v := rfl
@[simp] theorem setSuspend_pdState (v : Bool) : (setSuspend v s).pdState = s.pdState := rfl
@[simp] theorem setSuspend_pdCount (v : Bool) : (setSuspend v s).pdCount = s.pdCount := rfl
@[simp] theorem setSuspend_encMask (v : Bool) : (setSuspend v s).encMask = s.encMask := rfl
@[simp] theorem setSuspend_txnState (v : Bool) : (setSuspend v s).txnState = s.txnState := rfl
@[simp] theorem setSuspend_romPhase (v : Bool) : (setSuspend v s).romPhase = s.romPhase := rfl
@[simp] theorem setSuspend_romBit (v : Bool) : (setSuspend v s).romBit = s.romBit := rfl
@[simp] theorem setSuspend_romByte (v : Bool) : (setSuspend v s).romByte = s.romByte := rfl
@[simp] theorem setSuspend_romFamily (v : Bool) : (setSuspend v s).romFamily = s.romFamily := rfl
@[simp] theorem setSuspend_romSerial (v : Bool) : (setSuspend v s).romSerial = s.romSerial := rfl
@[simp] theorem setSuspend_romCrc (v : Bool) : (setSuspend v s).romCrc = s.romCrc := rfl
@[simp] theorem setSuspend_tempAcc (v : Bool) : (setSuspend v s).tempAcc = s.tempAcc := rfl
@[simp] theorem setSuspend_tempOut (v : Bool) : (setSuspend v s).tempOut = s.tempOut := rfl
@[simp] theorem setSuspend_familyOut (v : Bool) : (setSuspend v s).familyOut = s.familyOut := rfl
@[simp] theorem setSuspend_spIdx (v : Bool) : (setSuspend v s).spIdx = s.spIdx := rfl
@[simp] theorem setSuspend_seqState (v : Bool) : (setSuspend v s).seqState = s.seqState := rfl
@[simp] theorem setSuspend_resetIssued (v : Bool) : (setSuspend v s).resetIssued = s.resetIssued := rfl
@[simp] theorem setSuspend_convTriggered (v : Bool) : (setSuspend v s).convTriggered = s.convTriggered := rfl
@[simp] theorem setSuspend_owDriveLow (v : Bool) : (setSuspend v s).owDriveLow = s.owDriveLow := rfl
@[simp] theorem setSuspend_initialised (v : Bool) : (setSuspend v s).initialised = s.initialised := rfl
@[simp] theorem setSuspend_refused (v : Bool) : (setSuspend v s).refused = s.refused := rfl
@[simp] theorem setSuspend_faulted (v : Bool) : (setSuspend v s).faulted = s.faulted := rfl
@[simp] theorem setSuspend_cfg (v : Bool) : (setSuspend v s).cfg = s.cfg := rfl
@[simp] theorem setSuspend_busTrace (v : Bool) : (setSuspend v s).busTrace = s.busTrace := rfl
@[simp] theorem setSuspend_responses (v : Bool) : (setSuspend v s).responses = s.responses := rfl
@[simp] theorem setSuspend_samples (v : Bool) : (setSuspend v s).samples = s.samples := rfl
@[simp] theorem setSuspend_lineDraws (v : Bool) : (setSuspend v s).lineDraws = s.lineDraws := rfl
@[simp] theorem setSuspend_pending (v : Bool) : (setSuspend v s).pending = s.pending := rfl
@[simp] theorem setSuspend_orderDraws (v : Bool) : (setSuspend v s).orderDraws = s.orderDraws := rfl

/-! markResetIssued -/

@[simp] theorem markResetIssued_tickFlag : (markResetIssued s).tickFlag = s.tickFlag := rfl
@[simp] theorem markResetIssued_suspend : (markResetIssued s).suspend = s.suspend := rfl
@[simp] theorem markResetIssued_pdState : (markResetIssued s).pdState = s.pdState := rfl
@[simp] theorem markResetIssued_pdCount : (markResetIssued s).pdCount = s.pdCount := rfl
@[simp] theorem markResetIssued_encMask : (markResetIssued s).encMask = s.encMask := rfl
@[simp] theorem markResetIssued_txnState : (markResetIssued s).txnState = s.txnState := rfl
@[simp] theorem markResetIssued_romPhase : (markResetIssued s).romPhase = s.romPhase := rfl
@[simp] theorem markResetIssued_romBit : (markResetIssued s).romBit = s.romBit := rfl
@[simp] theorem markResetIssued_romByte : (markResetIssued s).romByte = s.romByte := rfl
@[simp] theorem markResetIssued_romFamily : (markResetIssued s).romFamily = s.romFamily := rfl
@[simp] theorem markResetIssued_romSerial : (markResetIssued s).romSerial = s.romSerial := rfl
@[simp] theorem markResetIssued_romCrc : (markResetIssued s).romCrc = s.romCrc := rfl
@[simp] theorem markResetIssued_tempAcc : (markResetIssued s).tempAcc = s.tempAcc := rfl
@[simp] theorem markResetIssued_tempOut : (markResetIssued s).tempOut = s.tempOut := rfl
@[simp] theorem markResetIssued_familyOut : (markResetIssued s).familyOut = s.familyOut := rfl
@[simp] theorem markResetIssued_spIdx : (markResetIssued s).spIdx = s.spIdx := rfl
@[simp] theorem markResetIssued_seqState : (markResetIssued s).seqState = s.seqState := rfl
@[simp] theorem markResetIssued_resetIssued : (markResetIssued s).resetIssued = true := rfl
@[simp] theorem markResetIssued_convTriggered : (markResetIssued s).convTriggered = s.convTriggered := rfl
@[simp] theorem markResetIssued_owDriveLow : (markResetIssued s).owDriveLow = s.owDriveLow := rfl
@[simp] theorem markResetIssued_initialised : (markResetIssued s).initialised = s.initialised := rfl
@[simp] theorem markResetIssued_refused : (markResetIssued s).refused = s.refused := rfl
@[simp] theorem markResetIssued_faulted : (markResetIssued s).faulted = s.faulted := rfl
@[simp] theorem markResetIssued_cfg : (markResetIssued s).cfg = s.cfg := rfl
@[simp] theorem markResetIssued_busTrace : (markResetIssued s).busTrace = s.busTrace := rfl
@[simp] theorem markResetIssued_responses : (markResetIssued s).responses = s.responses := rfl
@[simp] theorem markResetIssued_samples : (markResetIssued s).samples = s.samples := rfl
@[simp] theorem markResetIssued_lineDraws : (markResetIssued s).lineDraws = s.lineDraws := rfl
@[simp] theorem markResetIssued_pending : (markResetIssued s).pending = s.pending := rfl
@[simp] theorem markResetIssued_orderDraws : (markResetIssued s).orderDraws = s.orderDraws := rfl

/-! markConvTriggered -/

@[simp] theorem markConvTriggered_tickFlag : (markConvTriggered s).tickFlag = s.tickFlag := rfl
@[simp] theorem markConvTriggered_suspend : (markConvTriggered s).suspend = s.suspend := rfl
@[simp] theorem markConvTriggered_pdState : (markConvTriggered s).pdState = s.pdState := rfl
@[simp] theorem markConvTriggered_pdCount : (markConvTriggered s).pdCount = s.pdCount := rfl
@[simp] theorem markConvTriggered_encMask : (markConvTriggered s).encMask = s.encMask := rfl
@[simp] theorem markConvTriggered_txnState : (markConvTriggered s).txnState = s.txnState := rfl
@[simp] theorem markConvTriggered_romPhase : (markConvTriggered s).romPhase = s.romPhase := rfl
@[simp] theorem markConvTriggered_romBit : (markConvTriggered s).romBit = s.romBit := rfl
@[simp] theorem markConvTriggered_romByte : (markConvTriggered s).romByte = s.romByte := rfl
@[simp] theorem markConvTriggered_romFamily : (markConvTriggered s).romFamily = s.romFamily := rfl
@[simp] theorem markConvTriggered_romSerial : (markConvTriggered s).romSerial = s.romSerial := rfl
@[simp] theorem markConvTriggered_romCrc : (markConvTriggered s).romCrc = s.romCrc := rfl
@[simp] theorem markConvTriggered_tempAcc : (markConvTriggered s).tempAcc = s.tempAcc := rfl
@[simp] theorem markConvTriggered_tempOut : (markConvTriggered s).tempOut = s.tempOut := rfl
@[simp] theorem markConvTriggered_familyOut : (markConvTriggered s).familyOut = s.familyOut := rfl
@[simp] theorem markConvTriggered_spIdx : (markConvTriggered s).spIdx = s.spIdx := rfl
@[simp] theorem markConvTriggered_seqState : (markConvTriggered s).seqState = s.seqState := rfl
@[simp] theorem markConvTriggered_resetIssued : (markConvTriggered s).resetIssued = false := rfl
@[simp] theorem markConvTriggered_convTriggered : (markConvTriggered s).convTriggered = true := rfl
@[simp] theorem markConvTriggered_owDriveLow : (markConvTriggered s).owDriveLow = s.owDriveLow := rfl
@[simp] theorem markConvTriggered_initialised : (markConvTriggered s).initialised = s.initialised := rfl
@[simp] theorem markConvTriggered_refused : (markConvTriggered s).refused = s.refused := rfl
@[simp] theorem markConvTriggered_faulted : (markConvTriggered s).faulted = s.faulted := rfl
@[simp] theorem markConvTriggered_cfg : (markConvTriggered s).cfg = s.cfg := rfl
@[simp] theorem markConvTriggered_busTrace : (markConvTriggered s).busTrace = s.busTrace := rfl
@[simp] theorem markConvTriggered_responses : (markConvTriggered s).responses = s.responses := rfl
@[simp] theorem markConvTriggered_samples : (markConvTriggered s).samples = s.samples := rfl
@[simp] theorem markConvTriggered_lineDraws : (markConvTriggered s).lineDraws = s.lineDraws := rfl
@[simp] theorem markConvTriggered_pending : (markConvTriggered s).pending = s.pending := rfl
@[simp] theorem markConvTriggered_orderDraws : (markConvTriggered s).orderDraws = s.orderDraws := rfl

/-! clearCycleFlags -/

@[simp] theorem clearCycleFlags_tickFlag : (clearCycleFlags s).tickFlag = s.tickFlag := rfl
@[simp] theorem clearCycleFlags_suspend : (clearCycleFlags s).suspend = s.suspend := rfl
@[simp] theorem clearCycleFlags_pdState : (clearCycleFlags s).pdState = s.pdState := rfl
@[simp] theorem clearCycleFlags_pdCount : (clearCycleFlags s).pdCount = s.pdCount := rfl
@[simp] theorem clearCycleFlags_encMask : (clearCycleFlags s).encMask = s.encMask := rfl
@[simp] theorem clearCycleFlags_txnState : (clearCycleFlags s).txnState = s.txnState := rfl
@[simp] theorem clearCycleFlags_romPhase : (clearCycleFlags s).romPhase = s.romPhase := rfl
@[simp] theorem clearCycleFlags_romBit : (clearCycleFlags s).romBit = s.romBit := rfl
@[simp] theorem clearCycleFlags_romByte : (clearCycleFlags s).romByte = s.romByte := rfl
@[simp] theorem clearCycleFlags_romFamily : (clearCycleFlags s).romFamily = s.romFamily := rfl
@[simp] theorem clearCycleFlags_romSerial : (clearCycleFlags s).romSerial = s.romSerial := rfl
@[simp] theorem clearCycleFlags_romCrc : (clearCycleFlags s).romCrc = s.romCrc := rfl
@[simp] theorem clearCycleFlags_tempAcc : (clearCycleFlags s).tempAcc = s.tempAcc := rfl
@[simp] theorem clearCycleFlags_tempOut : (clearCycleFlags s).tempOut = s.tempOut := rfl
@[simp] theorem clearCycleFlags_familyOut : (clearCycleFlags s).familyOut = s.familyOut := rfl
@[simp] theorem clearCycleFlags_spIdx : (clearCycleFlags s).spIdx = s.spIdx := rfl
@[simp] theorem clearCycleFlags_seqState : (clearCycleFlags s).seqState = s.seqState := rfl
@[simp] theorem clearCycleFlags_resetIssued : (clearCycleFlags s).resetIssued = false := rfl
@[simp] theorem clearCycleFlags_convTriggered : (clearCycleFlags s).convTriggered = false := rfl
@[simp] theorem clearCycleFlags_owDriveLow : (clearCycleFlags s).owDriveLow = s.owDriveLow := rfl
@[simp] theorem clearCycleFlags_initialised : (clearCycleFlags s).initialised = s.initialised := rfl
@[simp] theorem clearCycleFlags_refused : (clearCycleFlags s).refused = s.refused := rfl
@[simp] theorem clearCycleFlags_faulted : (clearCycleFlags s).faulted = s.faulted := rfl
@[simp] theorem clearCycleFlags_cfg : (clearCycleFlags s).cfg = s.cfg := rfl
@[simp] theorem clearCycleFlags_busTrace : (clearCycleFlags s).busTrace = s.busTrace := rfl
@[simp] theorem clearCycleFlags_responses : (clearCycleFlags s).responses = s.responses := rfl
@[simp] theorem clearCycleFlags_samples : (clearCycleFlags s).samples = s.samples := rfl
@[simp] theorem clearCycleFlags_lineDraws : (clearCycleFlags s).lineDraws = s.lineDraws := rfl
@[simp] theorem clearCycleFlags_pending : (clearCycleFlags s).pending = s.pending := rfl
@[simp] theorem clearCycleFlags_orderDraws : (clearCycleFlags s).orderDraws = s.orderDraws := rfl

/-! driveLow -/

@[simp] theorem driveLow_tickFlag : (driveLow s).tickFlag = s.tickFlag := rfl
@[simp] theorem driveLow_suspend : (driveLow s).suspend = s.suspend := rfl
@[simp] theorem driveLow_pdState : (driveLow s).pdState = s.pdState := rfl
@[simp] theorem driveLow_pdCount : (driveLow s).pdCount = s.pdCount := rfl
@[simp] theorem driveLow_encMask : (driveLow s).encMask = s.encMask := rfl
@[simp] theorem driveLow_txnState : (driveLow s).txnState = s.txnState := rfl
@[simp] theorem driveLow_romPhase : (driveLow s).romPhase = s.romPhase := rfl
@[simp] theorem driveLow_romBit : (driveLow s).romBit = s.romBit := rfl
@[simp] theorem driveLow_romByte : (driveLow s).romByte = s.romByte := rfl
@[simp] theorem driveLow_romFamily : (driveLow s).romFamily = s.romFamily := rfl
@[simp] theorem driveLow_romSerial : (driveLow s).romSerial = s.romSerial := rfl
@[simp] theorem driveLow_romCrc : (driveLow s).romCrc = s.romCrc := rfl
@[simp] theorem driveLow_tempAcc : (driveLow s).tempAcc = s.tempAcc := rfl
@[simp] theorem driveLow_tempOut : (driveLow s).tempOut = s.tempOut := rfl
@[simp] theorem driveLow_familyOut : (driveLow s).familyOut = s.familyOut := rfl
@[simp] theorem driveLow_spIdx : (driveLow s).spIdx = s.spIdx := rfl
@[simp] theorem driveLow_seqState : (driveLow s).seqState = s.seqState := rfl
@[simp] theorem driveLow_resetIssued : (driveLow s).resetIssued = s.resetIssued := rfl
@[simp] theorem driveLow_convTriggered : (driveLow s).convTriggered = s.convTriggered := rfl
@[simp] theorem driveLow_owDriveLow : (driveLow s).owDriveLow = true := rfl
@[simp] theorem driveLow_initialised : (driveLow s).initialised = s.initialised := rfl
@[simp] theorem driveLow_refused : (driveLow s).refused = s.refused := rfl
@[simp] theorem driveLow_faulted : (driveLow s).faulted = s.faulted := rfl
@[simp] theorem driveLow_cfg : (driveLow s).cfg = s.cfg := rfl
@[simp] theorem driveLow_busTrace : (driveLow s).busTrace = s.busTrace := rfl
@[simp] theorem driveLow_responses : (driveLow s).responses = s.responses := rfl
@[simp] theorem driveLow_samples : (driveLow s).samples = s.samples := rfl
@[simp] theorem driveLow_lineDraws : (driveLow s).lineDraws = s.lineDraws := rfl
@[simp] theorem driveLow_pending : (driveLow s).pending = s.pending := rfl
@[simp] theorem driveLow_orderDraws : (driveLow s).orderDraws = s.orderDraws := rfl

/-! release -/

@[simp] theorem release_tickFlag : (release s).tickFlag = s.tickFlag := rfl
@[simp] theorem release_suspend : (release s).suspend = s.suspend := rfl
@[simp] theorem release_pdState : (release s).pdState = s.pdState := rfl
@[simp] theorem release_pdCount : (release s).pdCount = s.pdCount := rfl
@[simp] theorem release_encMask : (release s).encMask = s.encMask := rfl
@[simp] theorem release_txnState : (release s).txnState = s.txnState := rfl
@[simp] theorem release_romPhase : (release s).romPhase = s.romPhase := rfl
@[simp] theorem release_romBit : (release s).romBit = s.romBit := rfl
@[simp] theorem release_romByte : (release s).romByte = s.romByte := rfl
@[simp] theorem release_romFamily : (release s).romFamily = s.romFamily := rfl
@[simp] theorem release_romSerial : (release s).romSerial = s.romSerial := rfl
@[simp] theorem release_romCrc : (release s).romCrc = s.romCrc := rfl
@[simp] theorem release_tempAcc : (release s).tempAcc = s.tempAcc := rfl
@[simp] theorem release_tempOut : (release s).tempOut = s.tempOut := rfl
@[simp] theorem release_familyOut : (release s).familyOut = s.familyOut := rfl
@[simp] theorem release_spIdx : (release s).spIdx = s.spIdx := rfl
@[simp] theorem release_seqState : (release s).seqState = s.seqState := rfl
@[simp] theorem release_resetIssued : (release s).resetIssued = s.resetIssued := rfl
@[simp] theorem release_convTriggered : (release s).convTriggered = s.convTriggered := rfl
@[simp] theorem release_owDriveLow : (release s).owDriveLow = false := rfl
@[simp] theorem release_initialised : (release s).initialised = s.initialised := rfl
@[simp] theorem release_refused : (release s).refused = s.refused := rfl
@[simp] theorem release_faulted : (release s).faulted = s.faulted := rfl
@[simp] theorem release_cfg : (release s).cfg = s.cfg := rfl
@[simp] theorem release_busTrace : (release s).busTrace = s.busTrace := rfl
@[simp] theorem release_responses : (release s).responses = s.responses := rfl
@[simp] theorem release_samples : (release s).samples = s.samples := rfl
@[simp] theorem release_lineDraws : (release s).lineDraws = s.lineDraws := rfl
@[simp] theorem release_pending : (release s).pending = s.pending := rfl
@[simp] theorem release_orderDraws : (release s).orderDraws = s.orderDraws := rfl

/-! emit -/

@[simp] theorem emit_tickFlag (ev : BusEvent) : (emit ev s).tickFlag = s.tickFlag := rfl
@[simp] theorem emit_suspend (ev : BusEvent) : (emit ev s).suspend = s.suspend := rfl
@[simp] theorem emit_pdState (ev : BusEvent) : (emit ev s).pdState = s.pdState := rfl
@[simp] theorem emit_pdCount (ev : BusEvent) : (emit ev s).pdCount = s.pdCount := rfl
@[simp] theorem emit_encMask (ev : BusEvent) : (emit ev s).encMask = s.encMask := rfl
@[simp] theorem emit_txnState (ev : BusEvent) : (emit ev s).txnState = s.txnState := rfl
@[simp] theorem emit_romPhase (ev : BusEvent) : (emit ev s).romPhase = s.romPhase := rfl
@[simp] theorem emit_romBit (ev : BusEvent) : (emit ev s).romBit = s.romBit := rfl
@[simp] theorem emit_romByte (ev : BusEvent) : (emit ev s).romByte = s.romByte := rfl
@[simp] theorem emit_romFamily (ev : BusEvent) : (emit ev s).romFamily = s.romFamily := rfl
@[simp] theorem emit_romSerial (ev : BusEvent) : (emit ev s).romSerial = s.romSerial := rfl
@[simp] theorem emit_romCrc (ev : BusEvent) : (emit ev s).romCrc = s.romCrc := rfl
@[simp] theorem emit_tempAcc (ev : BusEvent) : (emit ev s).tempAcc = s.tempAcc := rfl
@[simp] theorem emit_tempOut (ev : BusEvent) : (emit ev s).tempOut = s.tempOut := rfl
@[simp] theorem emit_familyOut (ev : BusEvent) : (emit ev s).familyOut = s.familyOut := rfl
@[simp] theorem emit_spIdx (ev : BusEvent) : (emit ev s).spIdx = s.spIdx := rfl
@[simp] theorem emit_seqState (ev : BusEvent) : (emit ev s).seqState = s.seqState := rfl
@[simp] theorem emit_resetIssued (ev : BusEvent) : (emit ev s).resetIssued = s.resetIssued := rfl
@[simp] theorem emit_convTriggered (ev : BusEvent) : (emit ev s).convTriggered = s.convTriggered := rfl
@[simp] theorem emit_owDriveLow (ev : BusEvent) : (emit ev s).owDriveLow = s.owDriveLow := rfl
@[simp] theorem emit_initialised (ev : BusEvent) : (emit ev s).initialised = s.initialised := rfl
@[simp] theorem emit_refused (ev : BusEvent) : (emit ev s).refused = s.refused := rfl
@[simp] theorem emit_faulted (ev : BusEvent) : (emit ev s).faulted = s.faulted := rfl
@[simp] theorem emit_cfg (ev : BusEvent) : (emit ev s).cfg = s.cfg := rfl
@[simp] theorem emit_busTrace (ev : BusEvent) : (emit ev s).busTrace = s.busTrace ++ [ev] := rfl
@[simp] theorem emit_responses (ev : BusEvent) : (emit ev s).responses = s.responses := rfl
@[simp] theorem emit_samples (ev : BusEvent) : (emit ev s).samples = s.samples := rfl
@[simp] theorem emit_lineDraws (ev : BusEvent) : (emit ev s).lineDraws = s.lineDraws := rfl
@[simp] theorem emit_pending (ev : BusEvent) : (emit ev s).pending = s.pending := rfl
@[simp] theorem emit_orderDraws (ev : BusEvent) : (emit ev s).orderDraws = s.orderDraws := rfl

/-! nextSample -/

@[simp] theorem nextSample_tickFlag : (nextSample s).tickFlag = s.tickFlag := rfl
@[simp] theorem nextSample_suspend : (nextSample s).suspend = s.suspend := rfl
@[simp] theorem nextSample_pdState : (nextSample s).pdState = s.pdState := rfl
@[simp] theorem nextSample_pdCount : (nextSample s).pdCount = s.pdCount := rfl
@[simp] theorem nextSample_encMask : (nextSample s).encMask = s.encMask := rfl
@[simp] theorem nextSample_txnState : (nextSample s).txnState = s.txnState := rfl
@[simp] theorem nextSample_romPhase : (nextSample s).romPhase = s.romPhase := rfl
@[simp] theorem nextSample_romBit : (nextSample s).romBit = s.romBit := rfl
@[simp] theorem nextSample_romByte : (nextSample s).romByte = s.romByte := rfl
@[simp] theorem nextSample_romFamily : (nextSample s).romFamily = s.romFamily := rfl
@[simp] theorem nextSample_romSerial : (nextSample s).romSerial = s.romSerial := rfl
@[simp] theorem nextSample_romCrc : (nextSample s).romCrc = s.romCrc := rfl
@[simp] theorem nextSample_tempAcc : (nextSample s).tempAcc = s.tempAcc := rfl
@[simp] theorem nextSample_tempOut : (nextSample s).tempOut = s.tempOut := rfl
@[simp] theorem nextSample_familyOut : (nextSample s).familyOut = s.familyOut := rfl
@[simp] theorem nextSample_spIdx : (nextSample s).spIdx = s.spIdx := rfl
@[simp] theorem nextSample_seqState : (nextSample s).seqState = s.seqState := rfl
@[simp] theorem nextSample_resetIssued : (nextSample s).resetIssued = s.resetIssued := rfl
@[simp] theorem nextSample_convTriggered : (nextSample s).convTriggered = s.convTriggered := rfl
@[simp] theorem nextSample_owDriveLow : (nextSample s).owDriveLow = s.owDriveLow := rfl
@[simp] theorem nextSample_initialised : (nextSample s).initialised = s.initialised := rfl
@[simp] theorem nextSample_refused : (nextSample s).refused = s.refused := rfl
@[simp] theorem nextSample_faulted : (nextSample s).faulted = s.faulted := rfl
@[simp] theorem nextSample_cfg : (nextSample s).cfg = s.cfg := rfl
@[simp] theorem nextSample_busTrace : (nextSample s).busTrace = s.busTrace := rfl
@[simp] theorem nextSample_responses : (nextSample s).responses = s.responses := rfl
@[simp] theorem nextSample_samples : (nextSample s).samples = s.samples.tail := rfl
@[simp] theorem nextSample_lineDraws : (nextSample s).lineDraws = if s.samples.isEmpty then s.lineDraws + 1 else s.lineDraws := rfl
@[simp] theorem nextSample_pending : (nextSample s).pending = s.pending := rfl
@[simp] theorem nextSample_orderDraws : (nextSample s).orderDraws = s.orderDraws := rfl

/-! respond -/

@[simp] theorem respond_tickFlag (r : Response) : (respond r s).tickFlag = s.tickFlag := rfl
@[simp] theorem respond_suspend (r : Response) : (respond r s).suspend = s.suspend := rfl
@[simp] theorem respond_pdState (r : Response) : (respond r s).pdState = s.pdState := rfl
@[simp] theorem respond_pdCount (r : Response) : (respond r s).pdCount = s.pdCount := rfl
@[simp] theorem respond_encMask (r : Response) : (respond r s).encMask = s.encMask := rfl
@[simp] theorem respond_txnState (r : Response) : (respond r s).txnState = s.txnState := rfl
@[simp] theorem respond_romPhase (r : Response) : (respond r s).romPhase = s.romPhase := rfl
@[simp] theorem respond_romBit (r : Response) : (respond r s).romBit = s.romBit := rfl
@[simp] theorem respond_romByte (r : Response) : (respond r s).romByte = s.romByte := rfl
@[simp] theorem respond_romFamily (r : Response) : (respond r s).romFamily = s.romFamily := rfl
@[simp] theorem respond_romSerial (r : Response) : (respond r s).romSerial = s.romSerial := rfl
@[simp] theorem respond_romCrc (r : Response) : (respond r s).romCrc = s.romCrc := rfl
@[simp] theorem respond_tempAcc (r : Response) : (respond r s).tempAcc = s.tempAcc := rfl
@[simp] theorem respond_tempOut (r : Response) : (respond r s).tempOut = s.tempOut := rfl
@[simp] theorem respond_familyOut (r : Response) : (respond r s).familyOut = s.familyOut := rfl
@[simp] theorem respond_spIdx (r : Response) : (respond r s).spIdx = s.spIdx := rfl
@[simp] theorem respond_seqState (r : Response) : (respond r s).seqState = s.seqState := rfl
@[simp] theorem respond_resetIssued (r : Response) : (respond r s).resetIssued = s.resetIssued := rfl
@[simp] theorem respond_convTriggered (r : Response) : (respond r s).convTriggered = s.convTriggered := rfl
@[simp] theorem respond_owDriveLow (r : Response) : (respond r s).owDriveLow = s.owDriveLow := rfl
@[simp] theorem respond_initialised (r : Response) : (respond r s).initialised = s.initialised := rfl
@[simp] theorem respond_refused (r : Response) : (respond r s).refused = s.refused := rfl
@[simp] theorem respond_faulted (r : Response) : (respond r s).faulted = s.faulted := rfl
@[simp] theorem respond_cfg (r : Response) : (respond r s).cfg = s.cfg := rfl
@[simp] theorem respond_busTrace (r : Response) : (respond r s).busTrace = s.busTrace := rfl
@[simp] theorem respond_responses (r : Response) : (respond r s).responses = s.responses ++ [r] := rfl
@[simp] theorem respond_samples (r : Response) : (respond r s).samples = s.samples := rfl
@[simp] theorem respond_lineDraws (r : Response) : (respond r s).lineDraws = s.lineDraws := rfl
@[simp] theorem respond_pending (r : Response) : (respond r s).pending = s.pending := rfl
@[simp] theorem respond_orderDraws (r : Response) : (respond r s).orderDraws = s.orderDraws := rfl

/-! respondOk -/

@[simp] theorem respondOk_tickFlag (st : Status) (slot : SlotCode) (b : Bool) (v : Half) : (respondOk st slot b v s).tickFlag = s.tickFlag := rfl
@[simp] theorem respondOk_suspend (st : Status) (slot : SlotCode) (b : Bool) (v : Half) : (respondOk st slot b v s).suspend = s.suspend := rfl
@[simp] theorem respondOk_pdState (st : Status) (slot : SlotCode) (b : Bool) (v : Half) : (respondOk st slot b v s).pdState = s.pdState := rfl
@[simp] theorem respondOk_pdCount (st : Status) (slot : SlotCode) (b : Bool) (v : Half) : (respondOk st slot b v s).pdCount = s.pdCount := rfl
@[simp] theorem respondOk_encMask (st : Status) (slot : SlotCode) (b : Bool) (v : Half) : (respondOk st slot b v s).encMask = s.encMask := rfl
@[simp] theorem respondOk_txnState (st : Status) (slot : SlotCode) (b : Bool) (v : Half) : (respondOk st slot b v s).txnState = s.txnState := rfl
@[simp] theorem respondOk_romPhase (st : Status) (slot : SlotCode) (b : Bool) (v : Half) : (respondOk st slot b v s).romPhase = s.romPhase := rfl
@[simp] theorem respondOk_romBit (st : Status) (slot : SlotCode) (b : Bool) (v : Half) : (respondOk st slot b v s).romBit = s.romBit := rfl
@[simp] theorem respondOk_romByte (st : Status) (slot : SlotCode) (b : Bool) (v : Half) : (respondOk st slot b v s).romByte = s.romByte := rfl
@[simp] theorem respondOk_romFamily (st : Status) (slot : SlotCode) (b : Bool) (v : Half) : (respondOk st slot b v s).romFamily = s.romFamily := rfl
@[simp] theorem respondOk_romSerial (st : Status) (slot : SlotCode) (b : Bool) (v : Half) : (respondOk st slot b v s).romSerial = s.romSerial := rfl
@[simp] theorem respondOk_romCrc (st : Status) (slot : SlotCode) (b : Bool) (v : Half) : (respondOk st slot b v s).romCrc = s.romCrc := rfl
@[simp] theorem respondOk_tempAcc (st : Status) (slot : SlotCode) (b : Bool) (v : Half) : (respondOk st slot b v s).tempAcc = s.tempAcc := rfl
@[simp] theorem respondOk_tempOut (st : Status) (slot : SlotCode) (b : Bool) (v : Half) : (respondOk st slot b v s).tempOut = s.tempOut := rfl
@[simp] theorem respondOk_familyOut (st : Status) (slot : SlotCode) (b : Bool) (v : Half) : (respondOk st slot b v s).familyOut = s.familyOut := rfl
@[simp] theorem respondOk_spIdx (st : Status) (slot : SlotCode) (b : Bool) (v : Half) : (respondOk st slot b v s).spIdx = s.spIdx := rfl
@[simp] theorem respondOk_seqState (st : Status) (slot : SlotCode) (b : Bool) (v : Half) : (respondOk st slot b v s).seqState = s.seqState := rfl
@[simp] theorem respondOk_resetIssued (st : Status) (slot : SlotCode) (b : Bool) (v : Half) : (respondOk st slot b v s).resetIssued = s.resetIssued := rfl
@[simp] theorem respondOk_convTriggered (st : Status) (slot : SlotCode) (b : Bool) (v : Half) : (respondOk st slot b v s).convTriggered = s.convTriggered := rfl
@[simp] theorem respondOk_owDriveLow (st : Status) (slot : SlotCode) (b : Bool) (v : Half) : (respondOk st slot b v s).owDriveLow = s.owDriveLow := rfl
@[simp] theorem respondOk_initialised (st : Status) (slot : SlotCode) (b : Bool) (v : Half) : (respondOk st slot b v s).initialised = s.initialised := rfl
@[simp] theorem respondOk_refused (st : Status) (slot : SlotCode) (b : Bool) (v : Half) : (respondOk st slot b v s).refused = s.refused := rfl
@[simp] theorem respondOk_faulted (st : Status) (slot : SlotCode) (b : Bool) (v : Half) : (respondOk st slot b v s).faulted = s.faulted := rfl
@[simp] theorem respondOk_cfg (st : Status) (slot : SlotCode) (b : Bool) (v : Half) : (respondOk st slot b v s).cfg = s.cfg := rfl
@[simp] theorem respondOk_busTrace (st : Status) (slot : SlotCode) (b : Bool) (v : Half) : (respondOk st slot b v s).busTrace = s.busTrace := rfl
@[simp] theorem respondOk_responses (st : Status) (slot : SlotCode) (b : Bool) (v : Half) : (respondOk st slot b v s).responses = s.responses ++ [Response.mk st .none slot b v] := rfl
@[simp] theorem respondOk_samples (st : Status) (slot : SlotCode) (b : Bool) (v : Half) : (respondOk st slot b v s).samples = s.samples := rfl
@[simp] theorem respondOk_lineDraws (st : Status) (slot : SlotCode) (b : Bool) (v : Half) : (respondOk st slot b v s).lineDraws = s.lineDraws := rfl
@[simp] theorem respondOk_pending (st : Status) (slot : SlotCode) (b : Bool) (v : Half) : (respondOk st slot b v s).pending = s.pending := rfl
@[simp] theorem respondOk_orderDraws (st : Status) (slot : SlotCode) (b : Bool) (v : Half) : (respondOk st slot b v s).orderDraws = s.orderDraws := rfl

/-! resetControl -/

@[simp] theorem resetControl_tickFlag : (resetControl s).tickFlag = s.tickFlag := rfl
@[simp] theorem resetControl_suspend : (resetControl s).suspend = false := rfl
@[simp] theorem resetControl_pdState : (resetControl s).pdState = .waitLow := rfl
@[simp] theorem resetControl_pdCount : (resetControl s).pdCount = 0#3 := rfl
@[simp] theorem resetControl_encMask : (resetControl s).encMask = 0x01#8 := rfl
@[simp] theorem resetControl_txnState : (resetControl s).txnState = .writing := rfl
@[simp] theorem resetControl_romPhase : (resetControl s).romPhase = .family := rfl
@[simp] theorem resetControl_romBit : (resetControl s).romBit = 0#3 := rfl
@[simp] theorem resetControl_romByte : (resetControl s).romByte = 0#3 := rfl
@[simp] theorem resetControl_romFamily : (resetControl s).romFamily = s.romFamily := rfl
@[simp] theorem resetControl_romSerial : (resetControl s).romSerial = s.romSerial := rfl
@[simp] theorem resetControl_romCrc : (resetControl s).romCrc = s.romCrc := rfl
@[simp] theorem resetControl_tempAcc : (resetControl s).tempAcc = s.tempAcc := rfl
@[simp] theorem resetControl_tempOut : (resetControl s).tempOut = s.tempOut := rfl
@[simp] theorem resetControl_familyOut : (resetControl s).familyOut = s.familyOut := rfl
@[simp] theorem resetControl_spIdx : (resetControl s).spIdx = 0#4 := rfl
@[simp] theorem resetControl_seqState : (resetControl s).seqState = .masterReset := rfl
@[simp] theorem resetControl_resetIssued : (resetControl s).resetIssued = false := rfl
@[simp] theorem resetControl_convTriggered : (resetControl s).convTriggered = false := rfl
@[simp] theorem resetControl_owDriveLow : (resetControl s).owDriveLow = s.owDriveLow := rfl
@[simp] theorem resetControl_initialised : (resetControl s).initialised = s.initialised := rfl
@[simp] theorem resetControl_refused : (resetControl s).refused = s.refused := rfl
@[simp] theorem resetControl_faulted : (resetControl s).faulted = s.faulted := rfl
@[simp] theorem resetControl_cfg : (resetControl s).cfg = s.cfg := rfl
@[simp] theorem resetControl_busTrace : (resetControl s).busTrace = s.busTrace := rfl
@[simp] theorem resetControl_responses : (resetControl s).responses = s.responses := rfl
@[simp] theorem resetControl_samples : (resetControl s).samples = s.samples := rfl
@[simp] theorem resetControl_lineDraws : (resetControl s).lineDraws = s.lineDraws := rfl
@[simp] theorem resetControl_pending : (resetControl s).pending = s.pending := rfl
@[simp] theorem resetControl_orderDraws : (resetControl s).orderDraws = s.orderDraws := rfl

/-! resetData -/

@[simp] theorem resetData_tickFlag : (resetData s).tickFlag = false := rfl
@[simp] theorem resetData_suspend : (resetData s).suspend = s.suspend := rfl
@[simp] theorem resetData_pdState : (resetData s).pdState = s.pdState := rfl
@[simp] theorem resetData_pdCount : (resetData s).pdCount = s.pdCount := rfl
@[simp] theorem resetData_encMask : (resetData s).encMask = s.encMask := rfl
@[simp] theorem resetData_txnState : (resetData s).txnState = s.txnState := rfl
@[simp] theorem resetData_romPhase : (resetData s).romPhase = s.romPhase := rfl
@[simp] theorem resetData_romBit : (resetData s).romBit = s.romBit := rfl
@[simp] theorem resetData_romByte : (resetData s).romByte = s.romByte := rfl
@[simp] theorem resetData_romFamily : (resetData s).romFamily = 0x00#8 := rfl
@[simp] theorem resetData_romSerial : (resetData s).romSerial = Vector.replicate 6 0x00#8 := rfl
@[simp] theorem resetData_romCrc : (resetData s).romCrc = 0x00#8 := rfl
@[simp] theorem resetData_tempAcc : (resetData s).tempAcc = 0x0000#16 := rfl
@[simp] theorem resetData_tempOut : (resetData s).tempOut = 0x0000#16 := rfl
@[simp] theorem resetData_familyOut : (resetData s).familyOut = 0x00#8 := rfl
@[simp] theorem resetData_spIdx : (resetData s).spIdx = s.spIdx := rfl
@[simp] theorem resetData_seqState : (resetData s).seqState = s.seqState := rfl
@[simp] theorem resetData_resetIssued : (resetData s).resetIssued = s.resetIssued := rfl
@[simp] theorem resetData_convTriggered : (resetData s).convTriggered = s.convTriggered := rfl
@[simp] theorem resetData_owDriveLow : (resetData s).owDriveLow = false := rfl
@[simp] theorem resetData_initialised : (resetData s).initialised = true := rfl
@[simp] theorem resetData_refused : (resetData s).refused = s.refused := rfl
@[simp] theorem resetData_faulted : (resetData s).faulted = s.faulted := rfl
@[simp] theorem resetData_cfg : (resetData s).cfg = s.cfg := rfl
@[simp] theorem resetData_busTrace : (resetData s).busTrace = s.busTrace := rfl
@[simp] theorem resetData_responses : (resetData s).responses = s.responses := rfl
@[simp] theorem resetData_samples : (resetData s).samples = s.samples := rfl
@[simp] theorem resetData_lineDraws : (resetData s).lineDraws = s.lineDraws := rfl
@[simp] theorem resetData_pending : (resetData s).pending = s.pending := rfl
@[simp] theorem resetData_orderDraws : (resetData s).orderDraws = s.orderDraws := rfl

/-! presenceReport -/

@[simp] theorem presenceReport_tickFlag : (presenceReport s).tickFlag = s.tickFlag := rfl
@[simp] theorem presenceReport_suspend : (presenceReport s).suspend = s.suspend := rfl
@[simp] theorem presenceReport_pdState : (presenceReport s).pdState = .waitLow := rfl
@[simp] theorem presenceReport_pdCount : (presenceReport s).pdCount = 0#3 := rfl
@[simp] theorem presenceReport_encMask : (presenceReport s).encMask = s.encMask := rfl
@[simp] theorem presenceReport_txnState : (presenceReport s).txnState = s.txnState := rfl
@[simp] theorem presenceReport_romPhase : (presenceReport s).romPhase = s.romPhase := rfl
@[simp] theorem presenceReport_romBit : (presenceReport s).romBit = s.romBit := rfl
@[simp] theorem presenceReport_romByte : (presenceReport s).romByte = s.romByte := rfl
@[simp] theorem presenceReport_romFamily : (presenceReport s).romFamily = s.romFamily := rfl
@[simp] theorem presenceReport_romSerial : (presenceReport s).romSerial = s.romSerial := rfl
@[simp] theorem presenceReport_romCrc : (presenceReport s).romCrc = s.romCrc := rfl
@[simp] theorem presenceReport_tempAcc : (presenceReport s).tempAcc = s.tempAcc := rfl
@[simp] theorem presenceReport_tempOut : (presenceReport s).tempOut = s.tempOut := rfl
@[simp] theorem presenceReport_familyOut : (presenceReport s).familyOut = s.familyOut := rfl
@[simp] theorem presenceReport_spIdx : (presenceReport s).spIdx = s.spIdx := rfl
@[simp] theorem presenceReport_seqState : (presenceReport s).seqState = s.seqState := rfl
@[simp] theorem presenceReport_resetIssued : (presenceReport s).resetIssued = s.resetIssued := rfl
@[simp] theorem presenceReport_convTriggered : (presenceReport s).convTriggered = s.convTriggered := rfl
@[simp] theorem presenceReport_owDriveLow : (presenceReport s).owDriveLow = s.owDriveLow := rfl
@[simp] theorem presenceReport_initialised : (presenceReport s).initialised = s.initialised := rfl
@[simp] theorem presenceReport_refused : (presenceReport s).refused = s.refused := rfl
@[simp] theorem presenceReport_faulted : (presenceReport s).faulted = s.faulted := rfl
@[simp] theorem presenceReport_cfg : (presenceReport s).cfg = s.cfg := rfl
@[simp] theorem presenceReport_busTrace : (presenceReport s).busTrace = s.busTrace := rfl
@[simp] theorem presenceReport_responses : (presenceReport s).responses = s.responses := rfl
@[simp] theorem presenceReport_samples : (presenceReport s).samples = s.samples := rfl
@[simp] theorem presenceReport_lineDraws : (presenceReport s).lineDraws = s.lineDraws := rfl
@[simp] theorem presenceReport_pending : (presenceReport s).pending = s.pending := rfl
@[simp] theorem presenceReport_orderDraws : (presenceReport s).orderDraws = s.orderDraws := rfl

/-! publishTemp -/

@[simp] theorem publishTemp_tickFlag : (publishTemp s).tickFlag = s.tickFlag := rfl
@[simp] theorem publishTemp_suspend : (publishTemp s).suspend = s.suspend := rfl
@[simp] theorem publishTemp_pdState : (publishTemp s).pdState = s.pdState := rfl
@[simp] theorem publishTemp_pdCount : (publishTemp s).pdCount = s.pdCount := rfl
@[simp] theorem publishTemp_encMask : (publishTemp s).encMask = s.encMask := rfl
@[simp] theorem publishTemp_txnState : (publishTemp s).txnState = s.txnState := rfl
@[simp] theorem publishTemp_romPhase : (publishTemp s).romPhase = s.romPhase := rfl
@[simp] theorem publishTemp_romBit : (publishTemp s).romBit = s.romBit := rfl
@[simp] theorem publishTemp_romByte : (publishTemp s).romByte = s.romByte := rfl
@[simp] theorem publishTemp_romFamily : (publishTemp s).romFamily = s.romFamily := rfl
@[simp] theorem publishTemp_romSerial : (publishTemp s).romSerial = s.romSerial := rfl
@[simp] theorem publishTemp_romCrc : (publishTemp s).romCrc = s.romCrc := rfl
@[simp] theorem publishTemp_tempAcc : (publishTemp s).tempAcc = scaleTemp s.tempAcc := rfl
@[simp] theorem publishTemp_tempOut : (publishTemp s).tempOut = scaleTemp s.tempAcc := rfl
@[simp] theorem publishTemp_familyOut : (publishTemp s).familyOut = s.familyOut := rfl
@[simp] theorem publishTemp_spIdx : (publishTemp s).spIdx = s.spIdx := rfl
@[simp] theorem publishTemp_seqState : (publishTemp s).seqState = .masterReset := rfl
@[simp] theorem publishTemp_resetIssued : (publishTemp s).resetIssued = false := rfl
@[simp] theorem publishTemp_convTriggered : (publishTemp s).convTriggered = false := rfl
@[simp] theorem publishTemp_owDriveLow : (publishTemp s).owDriveLow = s.owDriveLow := rfl
@[simp] theorem publishTemp_initialised : (publishTemp s).initialised = s.initialised := rfl
@[simp] theorem publishTemp_refused : (publishTemp s).refused = s.refused := rfl
@[simp] theorem publishTemp_faulted : (publishTemp s).faulted = s.faulted := rfl
@[simp] theorem publishTemp_cfg : (publishTemp s).cfg = s.cfg := rfl
@[simp] theorem publishTemp_busTrace : (publishTemp s).busTrace = s.busTrace := rfl
@[simp] theorem publishTemp_responses : (publishTemp s).responses = s.responses := rfl
@[simp] theorem publishTemp_samples : (publishTemp s).samples = s.samples := rfl
@[simp] theorem publishTemp_lineDraws : (publishTemp s).lineDraws = s.lineDraws := rfl
@[simp] theorem publishTemp_pending : (publishTemp s).pending = s.pending := rfl
@[simp] theorem publishTemp_orderDraws : (publishTemp s).orderDraws = s.orderDraws := rfl

/-! doneW0 -/

@[simp] theorem doneW0_tickFlag : (doneW0 s).tickFlag = false := rfl
@[simp] theorem doneW0_suspend : (doneW0 s).suspend = s.suspend := rfl
@[simp] theorem doneW0_pdState : (doneW0 s).pdState = s.pdState := rfl
@[simp] theorem doneW0_pdCount : (doneW0 s).pdCount = s.pdCount := rfl
@[simp] theorem doneW0_encMask : (doneW0 s).encMask = s.encMask := rfl
@[simp] theorem doneW0_txnState : (doneW0 s).txnState = s.txnState := rfl
@[simp] theorem doneW0_romPhase : (doneW0 s).romPhase = s.romPhase := rfl
@[simp] theorem doneW0_romBit : (doneW0 s).romBit = s.romBit := rfl
@[simp] theorem doneW0_romByte : (doneW0 s).romByte = s.romByte := rfl
@[simp] theorem doneW0_romFamily : (doneW0 s).romFamily = s.romFamily := rfl
@[simp] theorem doneW0_romSerial : (doneW0 s).romSerial = s.romSerial := rfl
@[simp] theorem doneW0_romCrc : (doneW0 s).romCrc = s.romCrc := rfl
@[simp] theorem doneW0_tempAcc : (doneW0 s).tempAcc = s.tempAcc := rfl
@[simp] theorem doneW0_tempOut : (doneW0 s).tempOut = s.tempOut := rfl
@[simp] theorem doneW0_familyOut : (doneW0 s).familyOut = s.familyOut := rfl
@[simp] theorem doneW0_spIdx : (doneW0 s).spIdx = s.spIdx := rfl
@[simp] theorem doneW0_seqState : (doneW0 s).seqState = s.seqState := rfl
@[simp] theorem doneW0_resetIssued : (doneW0 s).resetIssued = s.resetIssued := rfl
@[simp] theorem doneW0_convTriggered : (doneW0 s).convTriggered = s.convTriggered := rfl
@[simp] theorem doneW0_owDriveLow : (doneW0 s).owDriveLow = false := rfl
@[simp] theorem doneW0_initialised : (doneW0 s).initialised = s.initialised := rfl
@[simp] theorem doneW0_refused : (doneW0 s).refused = s.refused := rfl
@[simp] theorem doneW0_faulted : (doneW0 s).faulted = s.faulted := rfl
@[simp] theorem doneW0_cfg : (doneW0 s).cfg = s.cfg := rfl
@[simp] theorem doneW0_busTrace : (doneW0 s).busTrace = s.busTrace ++ [.w0] := rfl
@[simp] theorem doneW0_responses : (doneW0 s).responses = s.responses := rfl
@[simp] theorem doneW0_samples : (doneW0 s).samples = s.samples := rfl
@[simp] theorem doneW0_lineDraws : (doneW0 s).lineDraws = s.lineDraws := rfl
@[simp] theorem doneW0_pending : (doneW0 s).pending = s.pending := rfl
@[simp] theorem doneW0_orderDraws : (doneW0 s).orderDraws = s.orderDraws := rfl

/-! doneW1 -/

@[simp] theorem doneW1_tickFlag : (doneW1 s).tickFlag = false := rfl
@[simp] theorem doneW1_suspend : (doneW1 s).suspend = s.suspend := rfl
@[simp] theorem doneW1_pdState : (doneW1 s).pdState = s.pdState := rfl
@[simp] theorem doneW1_pdCount : (doneW1 s).pdCount = s.pdCount := rfl
@[simp] theorem doneW1_encMask : (doneW1 s).encMask = s.encMask := rfl
@[simp] theorem doneW1_txnState : (doneW1 s).txnState = s.txnState := rfl
@[simp] theorem doneW1_romPhase : (doneW1 s).romPhase = s.romPhase := rfl
@[simp] theorem doneW1_romBit : (doneW1 s).romBit = s.romBit := rfl
@[simp] theorem doneW1_romByte : (doneW1 s).romByte = s.romByte := rfl
@[simp] theorem doneW1_romFamily : (doneW1 s).romFamily = s.romFamily := rfl
@[simp] theorem doneW1_romSerial : (doneW1 s).romSerial = s.romSerial := rfl
@[simp] theorem doneW1_romCrc : (doneW1 s).romCrc = s.romCrc := rfl
@[simp] theorem doneW1_tempAcc : (doneW1 s).tempAcc = s.tempAcc := rfl
@[simp] theorem doneW1_tempOut : (doneW1 s).tempOut = s.tempOut := rfl
@[simp] theorem doneW1_familyOut : (doneW1 s).familyOut = s.familyOut := rfl
@[simp] theorem doneW1_spIdx : (doneW1 s).spIdx = s.spIdx := rfl
@[simp] theorem doneW1_seqState : (doneW1 s).seqState = s.seqState := rfl
@[simp] theorem doneW1_resetIssued : (doneW1 s).resetIssued = s.resetIssued := rfl
@[simp] theorem doneW1_convTriggered : (doneW1 s).convTriggered = s.convTriggered := rfl
@[simp] theorem doneW1_owDriveLow : (doneW1 s).owDriveLow = false := rfl
@[simp] theorem doneW1_initialised : (doneW1 s).initialised = s.initialised := rfl
@[simp] theorem doneW1_refused : (doneW1 s).refused = s.refused := rfl
@[simp] theorem doneW1_faulted : (doneW1 s).faulted = s.faulted := rfl
@[simp] theorem doneW1_cfg : (doneW1 s).cfg = s.cfg := rfl
@[simp] theorem doneW1_busTrace : (doneW1 s).busTrace = s.busTrace ++ [.w1] := rfl
@[simp] theorem doneW1_responses : (doneW1 s).responses = s.responses := rfl
@[simp] theorem doneW1_samples : (doneW1 s).samples = s.samples := rfl
@[simp] theorem doneW1_lineDraws : (doneW1 s).lineDraws = s.lineDraws := rfl
@[simp] theorem doneW1_pending : (doneW1 s).pending = s.pending := rfl
@[simp] theorem doneW1_orderDraws : (doneW1 s).orderDraws = s.orderDraws := rfl

/-! doneRd -/

@[simp] theorem doneRd_tickFlag : (doneRd s).tickFlag = false := rfl
@[simp] theorem doneRd_suspend : (doneRd s).suspend = s.suspend := rfl
@[simp] theorem doneRd_pdState : (doneRd s).pdState = s.pdState := rfl
@[simp] theorem doneRd_pdCount : (doneRd s).pdCount = s.pdCount := rfl
@[simp] theorem doneRd_encMask : (doneRd s).encMask = s.encMask := rfl
@[simp] theorem doneRd_txnState : (doneRd s).txnState = s.txnState := rfl
@[simp] theorem doneRd_romPhase : (doneRd s).romPhase = s.romPhase := rfl
@[simp] theorem doneRd_romBit : (doneRd s).romBit = s.romBit := rfl
@[simp] theorem doneRd_romByte : (doneRd s).romByte = s.romByte := rfl
@[simp] theorem doneRd_romFamily : (doneRd s).romFamily = s.romFamily := rfl
@[simp] theorem doneRd_romSerial : (doneRd s).romSerial = s.romSerial := rfl
@[simp] theorem doneRd_romCrc : (doneRd s).romCrc = s.romCrc := rfl
@[simp] theorem doneRd_tempAcc : (doneRd s).tempAcc = s.tempAcc := rfl
@[simp] theorem doneRd_tempOut : (doneRd s).tempOut = s.tempOut := rfl
@[simp] theorem doneRd_familyOut : (doneRd s).familyOut = s.familyOut := rfl
@[simp] theorem doneRd_spIdx : (doneRd s).spIdx = s.spIdx := rfl
@[simp] theorem doneRd_seqState : (doneRd s).seqState = s.seqState := rfl
@[simp] theorem doneRd_resetIssued : (doneRd s).resetIssued = s.resetIssued := rfl
@[simp] theorem doneRd_convTriggered : (doneRd s).convTriggered = s.convTriggered := rfl
@[simp] theorem doneRd_owDriveLow : (doneRd s).owDriveLow = false := rfl
@[simp] theorem doneRd_initialised : (doneRd s).initialised = s.initialised := rfl
@[simp] theorem doneRd_refused : (doneRd s).refused = s.refused := rfl
@[simp] theorem doneRd_faulted : (doneRd s).faulted = s.faulted := rfl
@[simp] theorem doneRd_cfg : (doneRd s).cfg = s.cfg := rfl
@[simp] theorem doneRd_busTrace : (doneRd s).busTrace = s.busTrace ++ [.rd (lineLevel s)] := rfl
@[simp] theorem doneRd_responses : (doneRd s).responses = s.responses := rfl
@[simp] theorem doneRd_samples : (doneRd s).samples = s.samples.tail := rfl
@[simp] theorem doneRd_lineDraws : (doneRd s).lineDraws = if s.samples.isEmpty then s.lineDraws + 1 else s.lineDraws := rfl
@[simp] theorem doneRd_pending : (doneRd s).pending = s.pending := rfl
@[simp] theorem doneRd_orderDraws : (doneRd s).orderDraws = s.orderDraws := rfl

/-! doneRst -/

@[simp] theorem doneRst_tickFlag : (doneRst s).tickFlag = false := rfl
@[simp] theorem doneRst_suspend : (doneRst s).suspend = false := rfl
@[simp] theorem doneRst_pdState : (doneRst s).pdState = s.pdState := rfl
@[simp] theorem doneRst_pdCount : (doneRst s).pdCount = s.pdCount := rfl
@[simp] theorem doneRst_encMask : (doneRst s).encMask = s.encMask := rfl
@[simp] theorem doneRst_txnState : (doneRst s).txnState = s.txnState := rfl
@[simp] theorem doneRst_romPhase : (doneRst s).romPhase = s.romPhase := rfl
@[simp] theorem doneRst_romBit : (doneRst s).romBit = s.romBit := rfl
@[simp] theorem doneRst_romByte : (doneRst s).romByte = s.romByte := rfl
@[simp] theorem doneRst_romFamily : (doneRst s).romFamily = s.romFamily := rfl
@[simp] theorem doneRst_romSerial : (doneRst s).romSerial = s.romSerial := rfl
@[simp] theorem doneRst_romCrc : (doneRst s).romCrc = s.romCrc := rfl
@[simp] theorem doneRst_tempAcc : (doneRst s).tempAcc = s.tempAcc := rfl
@[simp] theorem doneRst_tempOut : (doneRst s).tempOut = s.tempOut := rfl
@[simp] theorem doneRst_familyOut : (doneRst s).familyOut = s.familyOut := rfl
@[simp] theorem doneRst_spIdx : (doneRst s).spIdx = s.spIdx := rfl
@[simp] theorem doneRst_seqState : (doneRst s).seqState = s.seqState := rfl
@[simp] theorem doneRst_resetIssued : (doneRst s).resetIssued = s.resetIssued := rfl
@[simp] theorem doneRst_convTriggered : (doneRst s).convTriggered = s.convTriggered := rfl
@[simp] theorem doneRst_owDriveLow : (doneRst s).owDriveLow = false := rfl
@[simp] theorem doneRst_initialised : (doneRst s).initialised = s.initialised := rfl
@[simp] theorem doneRst_refused : (doneRst s).refused = s.refused := rfl
@[simp] theorem doneRst_faulted : (doneRst s).faulted = s.faulted := rfl
@[simp] theorem doneRst_cfg : (doneRst s).cfg = s.cfg := rfl
@[simp] theorem doneRst_busTrace : (doneRst s).busTrace = s.busTrace ++ [.rst] := rfl
@[simp] theorem doneRst_responses : (doneRst s).responses = s.responses := rfl
@[simp] theorem doneRst_samples : (doneRst s).samples = s.samples := rfl
@[simp] theorem doneRst_lineDraws : (doneRst s).lineDraws = s.lineDraws := rfl
@[simp] theorem doneRst_pending : (doneRst s).pending = s.pending := rfl
@[simp] theorem doneRst_orderDraws : (doneRst s).orderDraws = s.orderDraws := rfl

end Sys2Proof.Machine
end

