-- ==== Sys2Proof/Laws/Slot.lean ====
section
/-! SUPPORT. What each slot primitive and the presence step answer: one equation where they complete, and one inversion that
says everything a completion means. -/

namespace Sys2Proof.Machine

variable {s : State}

@[simp] theorem withTick_on {d : SlotDone} (h : s.tickFlag = true) : withTick s d = .ok d := by simp [withTick, h]

@[simp] theorem withTick_off {d : SlotDone} (h : s.tickFlag = false) : withTick s d = .error .noTick := by
  simp [withTick, h]

theorem withTick_ok {d e : SlotDone} (h : withTick s d = .ok e) : s.tickFlag = true ∧ e = d := by
  unfold withTick at h
  split at h
  · next ht => exact ⟨ht, (Except.ok.inj h).symm⟩
  · cases h

/-- What an RD slot leaves, as one update (R127). -/
theorem doneRd_eq (s : State) : doneRd s =
    { nextSample s with tickFlag := false, owDriveLow := false, busTrace := s.busTrace ++ [.rd (lineLevel s)] } := rfl

/-- What an RST slot leaves, as one update (R128). -/
theorem doneRst_eq (s : State) : doneRst s =
    { s with tickFlag := false, suspend := false, owDriveLow := false, busTrace := s.busTrace ++ [.rst] } := rfl

/-- What a W0 slot leaves, as one update (R125). -/
theorem doneW0_eq (s : State) : doneW0 s =
    { s with tickFlag := false, owDriveLow := false, busTrace := s.busTrace ++ [.w0] } := rfl

/-- What a W1 slot leaves, as one update (R126). -/
theorem doneW1_eq (s : State) : doneW1 s =
    { s with tickFlag := false, owDriveLow := false, busTrace := s.busTrace ++ [.w1] } := rfl

theorem slotW0_tick (h : s.tickFlag = true) : slotW0 s = .ok ⟨doneW0 s, .w0, false⟩ := withTick_on h

theorem slotW1_tick (h : s.tickFlag = true) : slotW1 s = .ok ⟨doneW1 s, .w1, false⟩ := withTick_on h

theorem slotRd_tick (h : s.tickFlag = true) : slotRd s = .ok ⟨doneRd s, .rd, lineLevel s⟩ := withTick_on h

theorem slotRst_tick (h : s.tickFlag = true) : slotRst s = .ok ⟨doneRst s, .rst, false⟩ := withTick_on h

@[simp] theorem afterSlot_ok (d : SlotDone) (upd : Bool → State → Status × State) :
    afterSlot (.ok d) upd = .ok ⟨(upd d.sample d.state).2, (upd d.sample d.state).1, d.slot, d.sample⟩ := rfl

@[simp] theorem afterSlot_error (f : Fault) (upd : Bool → State → Status × State) :
    afterSlot (.error f) upd = .error f := rfl

/-- A sub-machine that completes has run its primitive to the end, and then its update. -/
theorem afterSlot_inv {r : Except Fault SlotDone} {upd : Bool → State → Status × State} {d : SubDone}
    (h : afterSlot r upd = .ok d) :
    ∃ e, r = .ok e ∧ d = ⟨(upd e.sample e.state).2, (upd e.sample e.state).1, e.slot, e.sample⟩ := by
  cases r with
  | error f => cases h
  | ok e => exact ⟨e, rfl, (Except.ok.inj h).symm⟩

theorem lineLevel_cons {b : Bool} {bs : List Bool} (h : s.samples = b :: bs) : lineLevel s = b := by
  simp [lineLevel, h]

theorem lineLevel_nil (h : s.samples = []) : lineLevel s = Config.lineLevel s.lineDraws := by
  simp [lineLevel, h]

/-- A slot on RD that completes had a tick, and the update ran on the sampled bit. -/
theorem afterRd_inv {upd : Bool → State → Status × State} {d : SubDone} (h : afterSlot (slotRd s) upd = .ok d) :
    s.tickFlag = true ∧
      d = ⟨(upd (lineLevel s) (doneRd s)).2, (upd (lineLevel s) (doneRd s)).1, .rd, lineLevel s⟩ := by
  obtain ⟨e, he, rfl⟩ := afterSlot_inv h
  obtain ⟨ht, rfl⟩ := withTick_ok he
  exact ⟨ht, rfl⟩

theorem afterRst_inv {upd : Bool → State → Status × State} {d : SubDone} (h : afterSlot (slotRst s) upd = .ok d) :
    s.tickFlag = true ∧ d = ⟨(upd false (doneRst s)).2, (upd false (doneRst s)).1, .rst, false⟩ := by
  obtain ⟨e, he, rfl⟩ := afterSlot_inv h
  obtain ⟨ht, rfl⟩ := withTick_ok he
  exact ⟨ht, rfl⟩

/-- The presence machine's registers hold no reserved value. -/
theorem presenceFault_none (hs : s.pdState = .waitLow ∨ s.pdState = .countLow) (hc : s.pdCount ≤ pdMaxLow) :
    presenceFault s = none := by
  have h1 : ¬(s.pdState = .terminal ∨ s.pdState = .reserved) := by rcases hs with h | h <;> simp [h]
  have h2 : ¬(s.pdCount > pdMaxLow) := by simpa using hc
  simp [presenceFault, h1, h2]

theorem presenceStep_tick (ht : s.tickFlag = true) (hf : presenceFault s = none) :
    presenceStep s =
      .ok ⟨(presenceUpdate (lineLevel s) (doneRd s)).2, (presenceUpdate (lineLevel s) (doneRd s)).1, .rd, lineLevel s⟩ := by
  simp [presenceStep, hf, slotRd_tick ht]

theorem presenceStep_inv {d : SubDone} (h : presenceStep s = .ok d) :
    s.tickFlag = true ∧ presenceFault s = none ∧
      d = ⟨(presenceUpdate (lineLevel s) (doneRd s)).2, (presenceUpdate (lineLevel s) (doneRd s)).1, .rd, lineLevel s⟩ := by
  unfold presenceStep at h
  split at h
  · cases h
  · next hf =>
    obtain ⟨ht, hd⟩ := afterRd_inv h
    exact ⟨ht, hf, hd⟩

/-- Everything the presence machine's update can do (R129). -/
theorem presenceUpdate_cases (b : Bool) (s : State) :
    (b = false ∧ s.pdCount = pdMaxLow ∧ presenceUpdate b s = (.error, presenceReport s)) ∨
    (b = false ∧ s.pdCount ≠ pdMaxLow ∧
      presenceUpdate b s = (.pending, { s with pdCount := s.pdCount + 1, pdState := .countLow })) ∨
    (b = true ∧ s.pdState = .countLow ∧ presenceUpdate b s = (.finished, presenceReport s)) ∨
    (b = true ∧ s.pdState ≠ .countLow ∧ presenceUpdate b s = (.pending, s)) := by
  cases b
  · by_cases hc : s.pdCount = pdMaxLow <;> simp [presenceUpdate, hc]
  · by_cases hp : s.pdState = .countLow <;> simp [presenceUpdate, hp]

/-- A primitive as an event of its own, in a state that is initialised and has a tick pending. -/
theorem runSlot_ok {prim : State → Except Fault SlotDone} {d : SlotDone} (hi : s.initialised = true)
    (hp : prim s = .ok d) : runSlot prim s = .next d.state := by
  simp [runSlot, whenInitialised, hi, hp]

theorem runSlot_inv {prim : State → Except Fault SlotDone} {t : State} (h : runSlot prim s = .next t) :
    s.initialised = true ∧ ∃ d, prim s = .ok d ∧ t = d.state := by
  unfold runSlot whenInitialised at h
  split at h
  · next hi =>
    split at h
    · next d hd => exact ⟨hi, d, hd, (Host.Outcome.next.inj h).symm⟩
    · cases h
  · cases h

end Sys2Proof.Machine
end

