-- ==== Sys2Proof/Laws/Codec.lean ====
section
/-! SUPPORT. What the encoder, the reply builders and the transaction answer: one equation for each way of completing, and one
inversion for each that says everything a completion means. -/

namespace Sys2Proof.Machine

variable {s : State} {opc : Byte} {d : SubDone}

/-- The state the encoder's slot leaves: W1 for a masked bit that is 1, else W0 (R150). -/
def doneWrite (opc : Byte) (s : State) : State := if maskedBit opc s.encMask then doneW1 s else doneW0 s

/-- The slot the encoder performs (R150). -/
def writeSlot (opc : Byte) (s : State) : SlotCode := if maskedBit opc s.encMask then .w1 else .w0

@[simp] theorem doneWrite_tickFlag : (doneWrite opc s).tickFlag = false := by unfold doneWrite; split <;> rfl
@[simp] theorem doneWrite_suspend : (doneWrite opc s).suspend = s.suspend := by unfold doneWrite; split <;> rfl
@[simp] theorem doneWrite_pdState : (doneWrite opc s).pdState = s.pdState := by unfold doneWrite; split <;> rfl
@[simp] theorem doneWrite_pdCount : (doneWrite opc s).pdCount = s.pdCount := by unfold doneWrite; split <;> rfl
@[simp] theorem doneWrite_encMask : (doneWrite opc s).encMask = s.encMask := by unfold doneWrite; split <;> rfl
@[simp] theorem doneWrite_txnState : (doneWrite opc s).txnState = s.txnState := by unfold doneWrite; split <;> rfl
@[simp] theorem doneWrite_romPhase : (doneWrite opc s).romPhase = s.romPhase := by unfold doneWrite; split <;> rfl
@[simp] theorem doneWrite_romBit : (doneWrite opc s).romBit = s.romBit := by unfold doneWrite; split <;> rfl
@[simp] theorem doneWrite_romByte : (doneWrite opc s).romByte = s.romByte := by unfold doneWrite; split <;> rfl
@[simp] theorem doneWrite_romFamily : (doneWrite opc s).romFamily = s.romFamily := by unfold doneWrite; split <;> rfl
@[simp] theorem doneWrite_romSerial : (doneWrite opc s).romSerial = s.romSerial := by unfold doneWrite; split <;> rfl
@[simp] theorem doneWrite_romCrc : (doneWrite opc s).romCrc = s.romCrc := by unfold doneWrite; split <;> rfl
@[simp] theorem doneWrite_tempAcc : (doneWrite opc s).tempAcc = s.tempAcc := by unfold doneWrite; split <;> rfl
@[simp] theorem doneWrite_tempOut : (doneWrite opc s).tempOut = s.tempOut := by unfold doneWrite; split <;> rfl
@[simp] theorem doneWrite_familyOut : (doneWrite opc s).familyOut = s.familyOut := by unfold doneWrite; split <;> rfl
@[simp] theorem doneWrite_spIdx : (doneWrite opc s).spIdx = s.spIdx := by unfold doneWrite; split <;> rfl
@[simp] theorem doneWrite_seqState : (doneWrite opc s).seqState = s.seqState := by unfold doneWrite; split <;> rfl
@[simp] theorem doneWrite_resetIssued : (doneWrite opc s).resetIssued = s.resetIssued := by unfold doneWrite; split <;> rfl
@[simp] theorem doneWrite_convTriggered : (doneWrite opc s).convTriggered = s.convTriggered := by unfold doneWrite; split <;> rfl
@[simp] theorem doneWrite_owDriveLow : (doneWrite opc s).owDriveLow = false := by unfold doneWrite; split <;> rfl
@[simp] theorem doneWrite_initialised : (doneWrite opc s).initialised = s.initialised := by unfold doneWrite; split <;> rfl
@[simp] theorem doneWrite_refused : (doneWrite opc s).refused = s.refused := by unfold doneWrite; split <;> rfl
@[simp] theorem doneWrite_faulted : (doneWrite opc s).faulted = s.faulted := by unfold doneWrite; split <;> rfl
@[simp] theorem doneWrite_cfg : (doneWrite opc s).cfg = s.cfg := by unfold doneWrite; split <;> rfl
@[simp] theorem doneWrite_responses : (doneWrite opc s).responses = s.responses := by unfold doneWrite; split <;> rfl
@[simp] theorem doneWrite_samples : (doneWrite opc s).samples = s.samples := by unfold doneWrite; split <;> rfl
@[simp] theorem doneWrite_lineDraws : (doneWrite opc s).lineDraws = s.lineDraws := by unfold doneWrite; split <;> rfl
@[simp] theorem doneWrite_pending : (doneWrite opc s).pending = s.pending := by unfold doneWrite; split <;> rfl
@[simp] theorem doneWrite_orderDraws : (doneWrite opc s).orderDraws = s.orderDraws := by unfold doneWrite; split <;> rfl
@[simp] theorem doneWrite_busTrace :
    (doneWrite opc s).busTrace = s.busTrace ++ [if maskedBit opc s.encMask then .w1 else .w0] := by
  unfold doneWrite; split <;> rfl

theorem encStep_tick (ht : s.tickFlag = true) (hm : isOneHot s.encMask = true) :
    encStep opc s = .ok ⟨(encUpdate (doneWrite opc s)).2, (encUpdate (doneWrite opc s)).1, writeSlot opc s, false⟩ := by
  by_cases hb : maskedBit opc s.encMask = true <;>
    simp [encStep, hm, hb, doneWrite, writeSlot, slotW0_tick ht, slotW1_tick ht]

theorem encStep_inv (h : encStep opc s = .ok d) :
    s.tickFlag = true ∧ isOneHot s.encMask = true ∧
      d = ⟨(encUpdate (doneWrite opc s)).2, (encUpdate (doneWrite opc s)).1, writeSlot opc s, false⟩ := by
  by_cases hm : isOneHot s.encMask = true
  · by_cases ht : s.tickFlag = true
    · exact ⟨ht, hm, by rw [encStep_tick ht hm] at h; exact (Except.ok.inj h).symm⟩
    · have ht' : s.tickFlag = false := by simpa using ht
      by_cases hb : maskedBit opc s.encMask = true <;> simp [encStep, hm, hb, slotW0, slotW1, withTick, ht'] at h
  · simp [encStep, hm] at h

/-- Everything the encoder's update can do (R150). -/
theorem encUpdate_cases (s : State) :
    (s.encMask = 0x80#8 ∧ encUpdate s = (.finished, { s with encMask := 0x01#8 })) ∨
    (s.encMask ≠ 0x80#8 ∧ encUpdate s = (.pending, { s with encMask := s.encMask <<< 1 })) := by
  by_cases h : s.encMask = 0x80#8 <;> simp [encUpdate, h]

/-- The ROM builder's registers hold no reserved value. -/
theorem romFault_none (hp : s.romPhase ≠ .reserved) (hb : s.romByte ≤ lastSerialByte) : romFault s = none := by
  have h2 : ¬(s.romByte > lastSerialByte) := by simpa using hb
  simp [romFault, hp, h2]

theorem romUpdate_family {b : Bool} (h : s.romPhase = .family) : romUpdate b s = romFamilyUpdate b s := by
  simp [romUpdate, h]

theorem romUpdate_serial {b : Bool} (h : s.romPhase = .serial) : romUpdate b s = romSerialUpdate b s := by
  simp [romUpdate, h]

theorem romUpdate_crc {b : Bool} (h : s.romPhase = .crc) : romUpdate b s = romCrcUpdate b s := by
  simp [romUpdate, h]

/-- Everything the ROM builder's update can do on one sample (R182 to R184). -/
theorem romUpdate_cases (b : Bool) (s : State) :
    (s.romPhase = .family ∧ s.romBit ≠ lastBit ∧ romUpdate b s =
      (.pending, { s with romFamily := setBit s.romFamily s.romBit b, romBit := s.romBit + 1 })) ∨
    (s.romPhase = .family ∧ s.romBit = lastBit ∧ romUpdate b s =
      (.pending, { s with romFamily := setBit s.romFamily s.romBit b, romBit := 0#3, romPhase := .serial })) ∨
    (s.romPhase = .serial ∧ s.romBit ≠ lastBit ∧ romUpdate b s =
      (.pending, { s with romSerial := setSerialBit s.romSerial s.romByte s.romBit b, romBit := s.romBit + 1 })) ∨
    (s.romPhase = .serial ∧ s.romBit = lastBit ∧ s.romByte ≠ lastSerialByte ∧ romUpdate b s =
      (.pending, { s with
        romSerial := setSerialBit s.romSerial s.romByte s.romBit b, romBit := 0#3, romByte := s.romByte + 1 })) ∨
    (s.romPhase = .serial ∧ s.romBit = lastBit ∧ s.romByte = lastSerialByte ∧ romUpdate b s =
      (.pending, { s with
        romSerial := setSerialBit s.romSerial s.romByte s.romBit b, romBit := 0#3, romByte := 0#3, romPhase := .crc })) ∨
    (s.romPhase = .crc ∧ s.romBit ≠ lastBit ∧ romUpdate b s =
      (.pending, { s with romCrc := setBit s.romCrc s.romBit b, romBit := s.romBit + 1 })) ∨
    (s.romPhase = .crc ∧ s.romBit = lastBit ∧ romUpdate b s =
      (.finished, { s with
        romCrc := setBit s.romCrc s.romBit b, romBit := 0#3, romPhase := .family, familyOut := s.romFamily })) ∨
    (s.romPhase = .reserved ∧ romUpdate b s = (.pending, s)) := by
  cases hp : s.romPhase <;> by_cases hb : s.romBit = lastBit <;>
    simp [romUpdate, hp, romFamilyUpdate, romSerialUpdate, romCrcUpdate, hb]
  by_cases h5 : s.romByte = lastSerialByte <;> simp [h5]

/-- The ROM builder writes only its own registers and the published family code (R34, R184). -/
theorem romUpdate_frame (b : Bool) (s : State) : (romUpdate b s).2 =
    { s with
      romFamily := (romUpdate b s).2.romFamily, romSerial := (romUpdate b s).2.romSerial
      romCrc := (romUpdate b s).2.romCrc, romBit := (romUpdate b s).2.romBit, romByte := (romUpdate b s).2.romByte
      romPhase := (romUpdate b s).2.romPhase, familyOut := (romUpdate b s).2.familyOut } := by
  unfold romUpdate romFamilyUpdate romSerialUpdate romCrcUpdate
  split <;> (try dsimp only) <;> (try split) <;> (try split) <;> rfl

/-- The ready poll writes only `txn_state` (R213). -/
theorem readyUpdate_frame (b : Bool) (s : State) :
    (readyUpdate b s).2 = { s with txnState := (readyUpdate b s).2.txnState } := by
  cases b <;> rfl

theorem romStep_tick (ht : s.tickFlag = true) (hf : romFault s = none) :
    romStep s = .ok ⟨(romUpdate (lineLevel s) (doneRd s)).2, (romUpdate (lineLevel s) (doneRd s)).1, .rd, lineLevel s⟩ := by
  simp [romStep, hf, slotRd_tick ht]

theorem romStep_inv (h : romStep s = .ok d) :
    s.tickFlag = true ∧ romFault s = none ∧
      d = ⟨(romUpdate (lineLevel s) (doneRd s)).2, (romUpdate (lineLevel s) (doneRd s)).1, .rd, lineLevel s⟩ := by
  unfold romStep at h
  split at h
  · cases h
  · next hf =>
    obtain ⟨ht, hd⟩ := afterRd_inv h
    exact ⟨ht, hf, hd⟩

theorem spStep_collect (ht : s.tickFlag = true) (hi : s.spIdx ≠ spBits) :
    spStep s = .ok ⟨(spCollect (lineLevel s) (doneRd s)).2, .pending, .rd, lineLevel s⟩ := by
  simp [spStep, hi, slotRd_tick ht, spCollect]

theorem spStep_terminate (ht : s.tickFlag = true) (hi : s.spIdx = spBits) :
    spStep s = .ok ⟨(spTerminate (doneRst s)).2, .finished, .rst, false⟩ := by
  simp [spStep, hi, slotRst_tick ht, spTerminate]

theorem spStep_inv (h : spStep s = .ok d) :
    s.tickFlag = true ∧
      ((s.spIdx ≠ spBits ∧ d = ⟨(spCollect (lineLevel s) (doneRd s)).2, .pending, .rd, lineLevel s⟩) ∨
       (s.spIdx = spBits ∧ d = ⟨(spTerminate (doneRst s)).2, .finished, .rst, false⟩)) := by
  unfold spStep at h
  split at h
  · next hi =>
    obtain ⟨ht, hd⟩ := afterRst_inv h
    exact ⟨ht, .inr ⟨hi, hd⟩⟩
  · next hi =>
    obtain ⟨ht, hd⟩ := afterRd_inv h
    exact ⟨ht, .inl ⟨hi, hd⟩⟩

theorem otherReply_tick (ht : s.tickFlag = true) : otherReply s = .ok ⟨doneRd s, .error, .rd, lineLevel s⟩ := by
  simp [otherReply, slotRd_tick ht]

theorem convReadyStep_tick (ht : s.tickFlag = true) :
    convReadyStep s =
      .ok ⟨(readyUpdate (lineLevel s) (doneRd s)).2, (readyUpdate (lineLevel s) (doneRd s)).1, .rd, lineLevel s⟩ := by
  simp [convReadyStep, slotRd_tick ht]

/-- What TxnStep does in WRITING (R210). -/
theorem txnStep_writing (ht : s.tickFlag = true) (hw : s.txnState = .writing) (hm : isOneHot s.encMask = true) :
    txnStep opc s =
      .ok ⟨if s.encMask = 0x80#8 then { doneWrite opc s with encMask := 0x01#8, txnState := .reading }
            else { doneWrite opc s with encMask := s.encMask <<< 1 },
           .pending, writeSlot opc s, false⟩ := by
  by_cases h8 : s.encMask = 0x80#8 <;> simp [txnStep, hw, txnWrite, encStep_tick ht hm, encUpdate, h8]

/-- What TxnStep does in READING after CONVERT T (R211, R213). -/
theorem txnStep_ready (ht : s.tickFlag = true) (hr : s.txnState = .reading) (ho : opc = s.cfg.opcConvertT) :
    txnStep opc s =
      .ok ⟨(readyUpdate (lineLevel s) (doneRd s)).2, (readyUpdate (lineLevel s) (doneRd s)).1, .rd, lineLevel s⟩ := by
  simp [txnStep, hr, txnRead, ho, convReadyStep_tick ht]

/-- What TxnStep does in READING after READ ROM (R211, R181). -/
theorem txnStep_rom (ht : s.tickFlag = true) (hr : s.txnState = .reading) (hc : opc ≠ s.cfg.opcConvertT)
    (ho : opc = s.cfg.opcReadRom) (hf : romFault s = none) :
    txnStep opc s =
      .ok ⟨if (romUpdate (lineLevel s) (doneRd s)).1 = .pending then (romUpdate (lineLevel s) (doneRd s)).2
            else { (romUpdate (lineLevel s) (doneRd s)).2 with txnState := .writing },
           (romUpdate (lineLevel s) (doneRd s)).1, .rd, lineLevel s⟩ := by
  simp only [txnStep, hr, txnRead, if_neg hc]
  simp [decStep, ho, romStep_tick ht hf]

/-- What TxnStep does in READING after READ SCRATCHPAD, collecting (R211, R186). -/
theorem txnStep_collect (ht : s.tickFlag = true) (hr : s.txnState = .reading) (hc : opc ≠ s.cfg.opcConvertT)
    (hm : opc ≠ s.cfg.opcReadRom) (ho : opc = s.cfg.opcReadScratchpad) (hi : s.spIdx ≠ spBits) :
    txnStep opc s = .ok ⟨(spCollect (lineLevel s) (doneRd s)).2, .pending, .rd, lineLevel s⟩ := by
  simp only [txnStep, hr, txnRead, if_neg hc, decStep, if_neg hm, if_pos ho]
  simp [spStep_collect ht hi]

/-- What TxnStep does in READING after READ SCRATCHPAD, terminating (R211, R187). -/
theorem txnStep_terminate (ht : s.tickFlag = true) (hr : s.txnState = .reading) (hc : opc ≠ s.cfg.opcConvertT)
    (hm : opc ≠ s.cfg.opcReadRom) (ho : opc = s.cfg.opcReadScratchpad) (hi : s.spIdx = spBits) :
    txnStep opc s = .ok ⟨{ (spTerminate (doneRst s)).2 with txnState := .writing }, .finished, .rst, false⟩ := by
  simp only [txnStep, hr, txnRead, if_neg hc, decStep, if_neg hm, if_pos ho]
  simp [spStep_terminate ht hi]

/-- What TxnStep does in READING after a code without a reply decoder (R211, R189). -/
theorem txnStep_other (ht : s.tickFlag = true) (hr : s.txnState = .reading) (hc : opc ≠ s.cfg.opcConvertT)
    (hm : opc ≠ s.cfg.opcReadRom) (hs : opc ≠ s.cfg.opcReadScratchpad) :
    txnStep opc s = .ok ⟨{ doneRd s with txnState := .writing }, .error, .rd, lineLevel s⟩ := by
  simp only [txnStep, hr, txnRead, if_neg hc, decStep, if_neg hm, if_neg hs]
  simp [otherReply_tick ht]

/-- Everything TxnStep can do when it completes. -/
theorem txnStep_inv (h : txnStep opc s = .ok d) :
    s.tickFlag = true ∧
    ((s.txnState = .writing ∧ isOneHot s.encMask = true ∧
        d = ⟨if s.encMask = 0x80#8 then { doneWrite opc s with encMask := 0x01#8, txnState := .reading }
              else { doneWrite opc s with encMask := s.encMask <<< 1 }, .pending, writeSlot opc s, false⟩) ∨
     (s.txnState = .reading ∧ opc = s.cfg.opcConvertT ∧
        d = ⟨(readyUpdate (lineLevel s) (doneRd s)).2, (readyUpdate (lineLevel s) (doneRd s)).1, .rd, lineLevel s⟩) ∨
     (s.txnState = .reading ∧ opc ≠ s.cfg.opcConvertT ∧ opc = s.cfg.opcReadRom ∧ romFault s = none ∧
        d = ⟨if (romUpdate (lineLevel s) (doneRd s)).1 = .pending then (romUpdate (lineLevel s) (doneRd s)).2
              else { (romUpdate (lineLevel s) (doneRd s)).2 with txnState := .writing },
             (romUpdate (lineLevel s) (doneRd s)).1, .rd, lineLevel s⟩) ∨
     (s.txnState = .reading ∧ opc ≠ s.cfg.opcConvertT ∧ opc ≠ s.cfg.opcReadRom ∧ opc = s.cfg.opcReadScratchpad ∧
        s.spIdx ≠ spBits ∧ d = ⟨(spCollect (lineLevel s) (doneRd s)).2, .pending, .rd, lineLevel s⟩) ∨
     (s.txnState = .reading ∧ opc ≠ s.cfg.opcConvertT ∧ opc ≠ s.cfg.opcReadRom ∧ opc = s.cfg.opcReadScratchpad ∧
        s.spIdx = spBits ∧
        d = ⟨{ (spTerminate (doneRst s)).2 with txnState := .writing }, .finished, .rst, false⟩) ∨
     (s.txnState = .reading ∧ opc ≠ s.cfg.opcConvertT ∧ opc ≠ s.cfg.opcReadRom ∧ opc ≠ s.cfg.opcReadScratchpad ∧
        d = ⟨{ doneRd s with txnState := .writing }, .error, .rd, lineLevel s⟩)) := by
  have key : ∀ {e : SubDone}, txnStep opc s = .ok e → d = e := fun he => Except.ok.inj (h.symm.trans he)
  cases hw : s.txnState with
  | writing =>
    have hd := h
    simp only [txnStep, hw, txnWrite] at hd
    split at hd
    · cases hd
    · next e he =>
      obtain ⟨ht, hm, -⟩ := encStep_inv he
      exact ⟨ht, .inl ⟨rfl, hm, key (txnStep_writing ht hw hm)⟩⟩
  | reading =>
    have hd := h
    simp only [txnStep, hw, txnRead] at hd
    split at hd
    · next hc =>
      obtain ⟨ht, -⟩ := afterRd_inv hd
      exact ⟨ht, .inr (.inl ⟨rfl, hc, key (txnStep_ready ht hw hc)⟩)⟩
    · next hc =>
      split at hd
      · cases hd
      · next e he =>
        unfold decStep at he
        split at he
        · next hm =>
          obtain ⟨ht, hf, -⟩ := romStep_inv he
          exact ⟨ht, .inr (.inr (.inl ⟨rfl, hc, hm, hf, key (txnStep_rom ht hw hc hm hf)⟩))⟩
        · next hm =>
          split at he
          · next hs =>
            obtain ⟨ht, ⟨hi, -⟩ | ⟨hi, -⟩⟩ := spStep_inv he
            · exact ⟨ht, .inr (.inr (.inr (.inl ⟨rfl, hc, hm, hs, hi, key (txnStep_collect ht hw hc hm hs hi)⟩)))⟩
            · exact ⟨ht, .inr (.inr (.inr (.inr (.inl
                ⟨rfl, hc, hm, hs, hi, key (txnStep_terminate ht hw hc hm hs hi)⟩))))⟩
          · next hs =>
            obtain ⟨ht, -⟩ := afterRd_inv he
            exact ⟨ht, .inr (.inr (.inr (.inr (.inr ⟨rfl, hc, hm, hs, key (txnStep_other ht hw hc hm hs)⟩))))⟩

/-- Everything a step of the READ ROM transaction can do (R212). -/
theorem txnStep_readRom_inv (hw : s.cfg.wellFormed = true) (h : txnStep s.cfg.opcReadRom s = .ok d) :
    s.tickFlag = true ∧
    ((s.txnState = .writing ∧ isOneHot s.encMask = true ∧
        d = ⟨if s.encMask = 0x80#8 then { doneWrite s.cfg.opcReadRom s with encMask := 0x01#8, txnState := .reading }
              else { doneWrite s.cfg.opcReadRom s with encMask := s.encMask <<< 1 }, .pending,
             writeSlot s.cfg.opcReadRom s, false⟩) ∨
     (s.txnState = .reading ∧ romFault s = none ∧
        d = ⟨if (romUpdate (lineLevel s) (doneRd s)).1 = .pending then (romUpdate (lineLevel s) (doneRd s)).2
              else { (romUpdate (lineLevel s) (doneRd s)).2 with txnState := .writing },
             (romUpdate (lineLevel s) (doneRd s)).1, .rd, lineLevel s⟩)) := by
  obtain ⟨hc, -, -⟩ := Config.wellFormed_ne hw
  obtain ⟨ht, hk | ⟨-, ho, -⟩ | ⟨hr, -, -, hf, hd⟩ | ⟨-, -, hn, -⟩ | ⟨-, -, hn, -⟩ | ⟨-, -, hn, -⟩⟩ := txnStep_inv h
  · exact ⟨ht, .inl hk⟩
  · exact absurd ho hc
  · exact ⟨ht, .inr ⟨hr, hf, hd⟩⟩
  all_goals exact absurd rfl hn

/-- Everything a step of the CONVERT T transaction can do (R212, R213). -/
theorem txnStep_convertT_inv (h : txnStep s.cfg.opcConvertT s = .ok d) :
    s.tickFlag = true ∧
    ((s.txnState = .writing ∧ isOneHot s.encMask = true ∧
        d = ⟨if s.encMask = 0x80#8 then { doneWrite s.cfg.opcConvertT s with encMask := 0x01#8, txnState := .reading }
              else { doneWrite s.cfg.opcConvertT s with encMask := s.encMask <<< 1 }, .pending,
             writeSlot s.cfg.opcConvertT s, false⟩) ∨
     (s.txnState = .reading ∧
        d = ⟨(readyUpdate (lineLevel s) (doneRd s)).2, (readyUpdate (lineLevel s) (doneRd s)).1, .rd, lineLevel s⟩)) := by
  obtain ⟨ht, hk | ⟨hr, -, hd⟩ | ⟨-, hn, -⟩ | ⟨-, hn, -⟩ | ⟨-, hn, -⟩ | ⟨-, hn, -⟩⟩ := txnStep_inv h
  · exact ⟨ht, .inl hk⟩
  · exact ⟨ht, .inr ⟨hr, hd⟩⟩
  all_goals exact absurd rfl hn

/-- Everything a step of the READ SCRATCHPAD transaction can do (R212). -/
theorem txnStep_readScratchpad_inv (hw : s.cfg.wellFormed = true) (h : txnStep s.cfg.opcReadScratchpad s = .ok d) :
    s.tickFlag = true ∧
    ((s.txnState = .writing ∧ isOneHot s.encMask = true ∧
        d = ⟨if s.encMask = 0x80#8 then
                { doneWrite s.cfg.opcReadScratchpad s with encMask := 0x01#8, txnState := .reading }
              else { doneWrite s.cfg.opcReadScratchpad s with encMask := s.encMask <<< 1 }, .pending,
             writeSlot s.cfg.opcReadScratchpad s, false⟩) ∨
     (s.txnState = .reading ∧ s.spIdx ≠ spBits ∧
        d = ⟨(spCollect (lineLevel s) (doneRd s)).2, .pending, .rd, lineLevel s⟩) ∨
     (s.txnState = .reading ∧ s.spIdx = spBits ∧
        d = ⟨{ (spTerminate (doneRst s)).2 with txnState := .writing }, .finished, .rst, false⟩)) := by
  obtain ⟨-, hm, hc⟩ := Config.wellFormed_ne hw
  obtain ⟨ht, hk | ⟨-, ho, -⟩ | ⟨-, -, ho, -⟩ | ⟨hr, -, -, -, hi, hd⟩ | ⟨hr, -, -, -, hi, hd⟩ | ⟨-, -, -, hn, -⟩⟩ :=
    txnStep_inv h
  · exact ⟨ht, .inl hk⟩
  · exact absurd ho.symm hc
  · exact absurd ho.symm hm
  · exact ⟨ht, .inr (.inl ⟨hr, hi, hd⟩)⟩
  · exact ⟨ht, .inr (.inr ⟨hr, hi, hd⟩)⟩
  · exact absurd rfl hn

/-- What TxnStep leaves unchanged: the presence machine, the sequencer, the published temperature, the marks, the
configuration, the responses and the script (R210, R211). -/
theorem txnStep_frame (h : txnStep opc s = .ok d) :
    d.state = { s with
      tickFlag := false, owDriveLow := false, suspend := d.state.suspend, busTrace := d.state.busTrace
      samples := d.state.samples, lineDraws := d.state.lineDraws
      encMask := d.state.encMask, txnState := d.state.txnState
      romFamily := d.state.romFamily, romSerial := d.state.romSerial, romCrc := d.state.romCrc
      romBit := d.state.romBit, romByte := d.state.romByte, romPhase := d.state.romPhase
      familyOut := d.state.familyOut, tempAcc := d.state.tempAcc, spIdx := d.state.spIdx } := by
  obtain ⟨-, ⟨-, -, rfl⟩ | ⟨-, -, rfl⟩ | ⟨-, -, -, -, rfl⟩ | ⟨-, -, -, -, -, rfl⟩ | ⟨-, -, -, -, -, rfl⟩ |
    ⟨-, -, -, -, rfl⟩⟩ := txnStep_inv h
  · dsimp only; unfold doneWrite; split <;> split <;> rfl
  · dsimp only; rw [readyUpdate_frame]; rfl
  · dsimp only; rw [romUpdate_frame]; split <;> rfl
  all_goals rfl

/-- What the encoder's slot leaves, as one update (R125, R126, R150). -/
theorem doneWrite_eq (opc : Byte) (s : State) : doneWrite opc s =
    { s with
      tickFlag := false, owDriveLow := false
      busTrace := s.busTrace ++ [if maskedBit opc s.encMask then .w1 else .w0] } := by
  unfold doneWrite; split <;> rfl

/-- A transaction step that completes had a tick, consumes it, performs exactly one slot and gives no response (R122, R123). -/
theorem txnStep_event (h : txnStep opc s = .ok d) :
    s.tickFlag = true ∧ d.state.tickFlag = false ∧ (∃ ev, d.state.busTrace = s.busTrace ++ [ev]) ∧
      d.state.responses = s.responses := by
  have hf := txnStep_frame h
  refine ⟨(txnStep_inv h).1, by rw [hf], ?_, by rw [hf]⟩
  obtain ⟨-, ⟨-, -, rfl⟩ | ⟨-, -, rfl⟩ | ⟨-, -, -, -, rfl⟩ | ⟨-, -, -, -, -, rfl⟩ | ⟨-, -, -, -, -, rfl⟩ |
    ⟨-, -, -, -, rfl⟩⟩ := txnStep_inv h
  · dsimp only; rw [doneWrite_eq]; split <;> exact ⟨_, rfl⟩
  · dsimp only; rw [readyUpdate_frame]; exact ⟨_, rfl⟩
  · dsimp only; rw [romUpdate_frame]; split <;> exact ⟨_, rfl⟩
  all_goals exact ⟨_, rfl⟩

/-- The response of a transaction step adds one response and changes nothing else. -/
theorem txnRespond_eq (d : SubDone) : ∃ r, txnRespond d = { d.state with responses := d.state.responses ++ [r] } := by
  unfold txnRespond
  cases d.status <;> exact ⟨_, rfl⟩

/-- One transaction step as an event of its own. -/
theorem runTxn_inv {t : State} (h : runTxn opc s = .next t) :
    s.initialised = true ∧
      ((s.tickFlag = true ∧ ∃ d, txnStep opc s = .ok d ∧ t = txnRespond d) ∨
       (s.tickFlag = false ∧ t = respondOk .pending .none false 0#16 s)) := by
  unfold runTxn whenInitialised at h
  split at h
  · next hi =>
    split at h
    · next ht =>
      split at h
      · next d hd => exact ⟨hi, .inl ⟨ht, d, hd, (Host.Outcome.next.inj h).symm⟩⟩
      · cases h
    · next ht => exact ⟨hi, .inr ⟨by simpa using ht, (Host.Outcome.next.inj h).symm⟩⟩
  · cases h

theorem runTxn_tick (hi : s.initialised = true) (ht : s.tickFlag = true) (hd : txnStep opc s = .ok d) :
    runTxn opc s = .next (txnRespond d) := by
  simp [runTxn, whenInitialised, hi, ht, hd]

end Sys2Proof.Machine
end

