-- ==== Sys2Proof/Laws/Sequencer.lean ====
section
/-! SUPPORT. What STEP and the other events answer, and what one step of the machine does. -/

namespace Sys2Proof.Machine

variable {s t : State}

/-- Everything MASTER_RESET can do (R232, R261). -/
theorem seqReset_inv (h : seqReset s = .ok t) :
    s.tickFlag = true ∧
    ((s.resetIssued = false ∧ t = respondOk .pending .rst false 0#16 (markResetIssued (doneRst s))) ∨
     (s.resetIssued = true ∧ presenceFault s = none ∧ lineLevel s = false ∧ s.pdCount = pdMaxLow ∧
        t = raiseError .presenceTimeout .rd false (presenceReport (doneRd s))) ∨
     (s.resetIssued = true ∧ presenceFault s = none ∧ lineLevel s = false ∧ s.pdCount ≠ pdMaxLow ∧
        t = respondOk .pending .rd false 0#16 { doneRd s with pdCount := s.pdCount + 1, pdState := .countLow }) ∨
     (s.resetIssued = true ∧ presenceFault s = none ∧ lineLevel s = true ∧ s.pdState = .countLow ∧
        t = respondOk .pending .rd true 0#16 { presenceReport (doneRd s) with seqState := .masterReadRom }) ∨
     (s.resetIssued = true ∧ presenceFault s = none ∧ lineLevel s = true ∧ s.pdState ≠ .countLow ∧
        t = respondOk .pending .rd true 0#16 (doneRd s))) := by
  unfold seqReset at h
  split at h
  · next hr =>
    split at h
    · cases h
    · next d hd =>
      obtain ⟨ht, hf, rfl⟩ := presenceStep_inv hd
      refine ⟨ht, .inr ?_⟩
      obtain ⟨hb, hc, hu⟩ | ⟨hb, hc, hu⟩ | ⟨hb, hc, hu⟩ | ⟨hb, hc, hu⟩ := presenceUpdate_cases (lineLevel s) (doneRd s) <;>
        rw [hb] at hu <;> simp only [hb, hu] at h <;> cases h
      · exact .inl ⟨hr, hf, hb, hc, rfl⟩
      · exact .inr (.inl ⟨hr, hf, hb, hc, rfl⟩)
      · exact .inr (.inr (.inl ⟨hr, hf, hb, hc, rfl⟩))
      · exact .inr (.inr (.inr ⟨hr, hf, hb, hc, rfl⟩))
  · next hr =>
    split at h
    · cases h
    · next d hd =>
      obtain ⟨ht, rfl⟩ := withTick_ok hd
      exact ⟨ht, .inl ⟨by simpa using hr, (Except.ok.inj h).symm⟩⟩

/-- Everything a STEP can do before its state's case is taken (R230, R265). -/
theorem seqStep_inv (h : seqStep s = .ok t) :
    (s.seqState = .invalid ∧ t = raiseError .invalidState .none false s) ∨
    (s.seqState ≠ .invalid ∧ s.tickFlag = false ∧ t = respondOk .pending .none false 0#16 s) ∨
    (s.tickFlag = true ∧ s.seqState = .masterReset ∧ seqReset s = .ok t) ∨
    (s.tickFlag = true ∧ s.seqState = .masterReadRom ∧ seqReadRom s = .ok t) ∨
    (s.tickFlag = true ∧ s.seqState = .masterTxFnCommand ∧ s.convTriggered = false ∧ seqTrigger s = .ok t) ∨
    (s.tickFlag = true ∧ s.seqState = .masterTxFnCommand ∧ s.convTriggered = true ∧ seqReadBack s = .ok t) := by
  unfold seqStep at h
  cases hq : s.seqState <;> cases ht : s.tickFlag <;> cases hc : s.convTriggered <;> simp_all

theorem seqReadRom_inv (h : seqReadRom s = .ok t) :
    ∃ d, txnStep s.cfg.opcReadRom s = .ok d ∧
      t = respondOk .pending d.slot d.sample 0#16
        (if d.status = .finished then { d.state with seqState := .masterTxFnCommand } else d.state) := by
  unfold seqReadRom at h
  split at h
  · cases h
  · next d hd => exact ⟨d, hd, (Except.ok.inj h).symm⟩

theorem seqTrigger_inv (h : seqTrigger s = .ok t) :
    ∃ d, txnStep s.cfg.opcConvertT s = .ok d ∧
      t = respondOk .pending d.slot d.sample 0#16
        (if d.status = .finished then { markConvTriggered d.state with seqState := .masterReset } else d.state) := by
  unfold seqTrigger at h
  split at h
  · cases h
  · next d hd => exact ⟨d, hd, (Except.ok.inj h).symm⟩

theorem seqReadBack_inv (h : seqReadBack s = .ok t) :
    ∃ d, txnStep s.cfg.opcReadScratchpad s = .ok d ∧
      t = if d.status = .finished then respondOk .finished d.slot d.sample 0#16 (publishTemp d.state)
          else respondOk .pending d.slot d.sample 0#16 d.state := by
  unfold seqReadBack at h
  split at h
  · cases h
  · next d hd =>
    refine ⟨d, hd, ?_⟩
    split at h <;> (next hf => simp [hf, (Except.ok.inj h).symm])

theorem whenInitialised_inv {k : Host.Outcome State Fault Refusal} (h : whenInitialised s k = .next t) :
    s.initialised = true ∧ k = .next t := by
  unfold whenInitialised at h
  split at h
  · next hi => exact ⟨hi, h⟩
  · cases h

@[simp] theorem whenInitialised_on {k : Host.Outcome State Fault Refusal} (h : s.initialised = true) :
    whenInitialised s k = k := by simp [whenInitialised, h]

theorem outcomeOf_inv {r : Except Fault State} (h : outcomeOf r = .next t) : r = .ok t := by
  cases r with
  | error f => cases h
  | ok u => rw [Host.Outcome.next.inj h]

theorem execStep_inv (h : exec .step s = .next t) : s.initialised = true ∧ seqStep s = .ok t := by
  obtain ⟨hi, ho⟩ := whenInitialised_inv h
  exact ⟨hi, outcomeOf_inv ho⟩

/-- A progressing STEP in MASTER_RESET is that state's case (R230, R232). -/
theorem execStep_reset (hi : s.initialised = true) (ht : s.tickFlag = true) (hq : s.seqState = .masterReset) :
    exec .step s = outcomeOf (seqReset s) := by
  simp only [exec, execStep, whenInitialised_on hi, seqStep, hq, ht, if_true]

/-- A progressing STEP in MASTER_READ_ROM is that state's case (R230, R233). -/
theorem execStep_readRom (hi : s.initialised = true) (ht : s.tickFlag = true) (hq : s.seqState = .masterReadRom) :
    exec .step s = outcomeOf (seqReadRom s) := by
  simp only [exec, execStep, whenInitialised_on hi, seqStep, hq, ht, if_true]

/-- A progressing STEP in MASTER_TX_FN_COMMAND before the trigger (R230, R234). -/
theorem execStep_trigger (hi : s.initialised = true) (ht : s.tickFlag = true) (hq : s.seqState = .masterTxFnCommand)
    (hc : s.convTriggered = false) : exec .step s = outcomeOf (seqTrigger s) := by
  simp [exec, execStep, whenInitialised_on hi, seqStep, hq, ht, hc]

/-- A progressing STEP in MASTER_TX_FN_COMMAND after the trigger (R230, R235). -/
theorem execStep_readBack (hi : s.initialised = true) (ht : s.tickFlag = true) (hq : s.seqState = .masterTxFnCommand)
    (hc : s.convTriggered = true) : exec .step s = outcomeOf (seqReadBack s) := by
  simp [exec, execStep, whenInitialised_on hi, seqStep, hq, ht, hc]

theorem execTick_inv (h : exec .tick s = .next t) : s.initialised = true ∧ t = setTick s := by
  obtain ⟨hi, ho⟩ := whenInitialised_inv h
  exact ⟨hi, (Host.Outcome.next.inj ho).symm⟩

theorem execGetTemp_inv (h : exec .getTemp s = .next t) :
    s.initialised = true ∧ t = respondOk .finished .none false s.tempOut s := by
  obtain ⟨hi, ho⟩ := whenInitialised_inv h
  exact ⟨hi, (Host.Outcome.next.inj ho).symm⟩

theorem execGetFamily_inv (h : exec .getFamily s = .next t) :
    s.initialised = true ∧ t = respondOk .finished .none false (s.familyOut.zeroExtend 16) s := by
  obtain ⟨hi, ho⟩ := whenInitialised_inv h
  exact ⟨hi, (Host.Outcome.next.inj ho).symm⟩

theorem execInit_inv (h : exec .init s = .next t) :
    t = respondOk .finished .none false 0#16 (resetData (resetControl s)) := (Host.Outcome.next.inj h).symm

/-- The nine line codes all run one transaction step with their own parameter (R151 to R159). -/
theorem exec_lineCode {i : Instr} {opc : Byte} (h : lineCode s.cfg i = some opc) : exec i s = runTxn opc s := by
  cases i <;> simp only [lineCode, Option.some.injEq, reduceCtorEq] at h <;> subst h <;> rfl

/-- Everything one step can do when it completes: the launch premises hold, and an event was processed or none arrived. -/
theorem step_inv (h : step s = .next t) :
    s.cfg.wellFormed = true ∧ s.refused = false ∧ s.faulted = false ∧
      (takeInput s = .quiet t ∨ ∃ i u, takeInput s = .run i u ∧ exec i u = .next t) := by
  unfold step nextInput launchCheck at h
  by_cases hw : s.cfg.wellFormed = true <;> by_cases hr : s.refused = true <;> by_cases hf : s.faulted = true <;>
    simp [hw, hr, hf] at h
  refine ⟨hw, by simpa using hr, by simpa using hf, ?_⟩
  cases hk : takeInput s <;> simp only [hk] at h
  · next i u => exact .inr ⟨i, u, rfl, h⟩
  · next u => exact .inl (by rw [Host.Outcome.next.inj h])
  · cases h
  · cases h

/-- Where the launch premises hold, a step is what the next input gives. -/
theorem step_launched (hw : s.cfg.wellFormed = true) (hr : s.refused = false) (hf : s.faulted = false) :
    step s = (match takeInput s with
      | .run i u  => exec i u
      | .quiet u  => .next u
      | .refuse r => .refused r
      | .fault f  => .fault f) := by
  simp only [step, nextInput, launchCheck, hw, hr, hf]
  cases takeInput s <;> rfl

end Sys2Proof.Machine
end

