-- ==== Sys2Proof/Laws/Fetch.lean ====
section
/-! SUPPORT. What taking an input changes and what it can give. -/

namespace Sys2Proof.Machine

variable {s u : State}

theorem takeWord_run {w : CodeWord} {i : Instr} (h : takeWord w s = .run i u) : decode s.cfg w = .ok i ∧ u = s := by
  unfold takeWord at h
  cases hd : decode s.cfg w with
  | ok j => rw [hd] at h; cases h; exact ⟨rfl, rfl⟩
  | error e => rw [hd] at h; cases e <;> cases h

theorem takeWord_quiet {w : CodeWord} (h : takeWord w s = .quiet u) : u = s := by
  unfold takeWord at h
  cases hd : decode s.cfg w with
  | ok j => rw [hd] at h; cases h
  | error e =>
    rw [hd] at h
    cases e with
    | noPulse => cases h; rfl
    | slotNone => cases h
    | reservedSlot code => cases h
    | unknownCode opc => cases h

/-- Taking an input that is an event changes the inputs to come and the order counter, and nothing else. -/
theorem takeInput_run {i : Instr} (h : takeInput s = .run i u) :
    u = { s with pending := u.pending, orderDraws := u.orderDraws } := by
  unfold takeInput takeBoth at h
  split at h
  · cases h
  · split at h <;> rw [(takeWord_run h).2]
  all_goals rw [(takeWord_run h).2]

/-- The same where nothing arrived. -/
theorem takeInput_quiet (h : takeInput s = .quiet u) :
    u = { s with pending := u.pending, orderDraws := u.orderDraws } := by
  unfold takeInput takeBoth at h
  split at h
  · cases h; rfl
  · split at h <;> rw [takeWord_quiet h]
  all_goals rw [takeWord_quiet h]

/-- A host word is one of the four commands (R90). -/
theorem decodeHost_mem (cmd : BitVec 2) : decodeHost cmd ∈ [Instr.init, .step, .getTemp, .getFamily] := by
  unfold decodeHost
  split
  · simp
  · split
    · simp
    · split <;> simp

end Sys2Proof.Machine
end

