-- ==== Sys2Proof/Laws/Operands.lean ====
section
/-! SUPPORT. The bit laws of the operand forms: which bit an insertion writes, that the mask stays one-hot, and the bounds of
the temperature registers. -/

namespace Sys2Proof.Machine

/-- `zext_8` of one bit (R10). -/
theorem zeroExtend_ofBool8 (b : Bool) : (BitVec.ofBool b).zeroExtend 8 = bit8 b := by cases b <;> rfl

/-- `zext_16` of one bit (R10). -/
theorem zeroExtend_ofBool16 (b : Bool) : (BitVec.ofBool b).zeroExtend 16 = bit16 b := by cases b <;> rfl

theorem bit8_getLsbD (b : Bool) (j : Nat) : (bit8 b).getLsbD j = (b && decide (j = 0)) := by
  cases b
  · simp [bit8]
  · by_cases hj : j = 0
    · subst hj; rfl
    · have : (1#8).getLsbD j = false := by simp [BitVec.getLsbD_one, hj]
      simp [bit8, hj, this]

theorem bit16_getLsbD (b : Bool) (j : Nat) : (bit16 b).getLsbD j = (b && decide (j = 0)) := by
  cases b
  · simp [bit16]
  · by_cases hj : j = 0
    · subst hj; rfl
    · have : (1#16).getLsbD j = false := by simp [BitVec.getLsbD_one, hj]
      simp [bit16, hj, this]

/-- The bits of a field byte after one insertion: the old bits (none at index 0) and the sampled bit at its place (R181). -/
theorem setBit_getLsbD (field : Byte) (idx : BitVec 3) (b : Bool) (j : Nat) :
    (setBit field idx b).getLsbD j =
      ((if idx = 0#3 then false else field.getLsbD j) || (b && decide (j = idx.toNat))) := by
  have hlt : idx.toNat < 8 := idx.isLt
  have key : (bit8 b <<< idx.toNat).getLsbD j = (b && decide (j = idx.toNat)) := by
    rw [BitVec.getLsbD_shiftLeft, bit8_getLsbD]
    by_cases hj : j = idx.toNat
    · subst hj; simp [hlt]
    · by_cases hl : j < idx.toNat
      · have : ¬ idx.toNat ≤ j := by omega
        simp [hj, hl]
      · have : j - idx.toNat ≠ 0 := by omega
        simp [hj, this]
  unfold setBit
  rw [BitVec.getLsbD_or, key]
  split <;> simp

/-- The bits of the accumulator after one insertion (R186). -/
theorem setTempBit_getLsbD (acc : Half) (idx : BitVec 4) (b : Bool) (j : Nat) :
    (setTempBit acc idx b).getLsbD j =
      ((if idx = 0#4 then false else acc.getLsbD j) || (b && decide (j = idx.toNat))) := by
  have hlt : idx.toNat < 16 := idx.isLt
  have key : (bit16 b <<< idx.toNat).getLsbD j = (b && decide (j = idx.toNat)) := by
    rw [BitVec.getLsbD_shiftLeft, bit16_getLsbD]
    by_cases hj : j = idx.toNat
    · subst hj; simp [hlt]
    · by_cases hl : j < idx.toNat
      · have : ¬ idx.toNat ≤ j := by omega
        simp [hj, hl]
      · have : j - idx.toNat ≠ 0 := by omega
        simp [hj, this]
  unfold setTempBit
  rw [BitVec.getLsbD_or, key]
  split <;> simp

/-- A serial byte after one insertion: only the indexed byte changes (R183). -/
theorem setSerialBit_getElem (serial : Vector Byte 6) (k idx : BitVec 3) (b : Bool) (j : Nat) (hj : j < 6) :
    (setSerialBit serial k idx b)[j] = if j = k.toNat then setBit serial[j] idx b else serial[j] := by
  unfold setSerialBit
  split
  · next hk =>
    by_cases h : j = k.toNat
    · subst h; simp
    · have h' : k.toNat ≠ j := fun e => h e.symm
      simp [h, h']
  · next hk =>
    have h : j ≠ k.toNat := by omega
    simp [h]

/-- Bit 15 of the accumulator is never set (R186, R44 item 12). -/
theorem setTempBit_lt {acc : Half} {idx : BitVec 4} {b : Bool} (ha : acc.toNat ≤ 0x7FFF) (hi : idx ≠ 15#4) :
    (setTempBit acc idx b).toNat ≤ 0x7FFF := by
  have hlt : idx.toNat < 15 := by
    have h1 := idx.isLt
    have h2 : idx.toNat ≠ 15 := fun h => hi (BitVec.eq_of_toNat_eq (by simpa using h))
    omega
  have h15 : acc.getLsbD 15 = false := by
    rw [BitVec.getLsbD]; exact Nat.testBit_lt_two_pow (by omega)
  have hbit : (setTempBit acc idx b).getLsbD 15 = false := by
    rw [setTempBit_getLsbD, h15]
    have : (15 : Nat) ≠ idx.toNat := by omega
    simp [this]
  have : (setTempBit acc idx b).toNat < 2 ^ 15 := by
    apply Nat.lt_pow_two_of_testBit
    intro i hi15
    by_cases h : i = 15
    · subst h; exact hbit
    · exact Nat.testBit_lt_two_pow (Nat.lt_of_lt_of_le (BitVec.isLt _) (Nat.pow_le_pow_right (by decide) (by omega)))
  omega

/-- With bit 15 clear, the arithmetic shift divides by 16 (R188, D20). -/
theorem scaleTemp_toNat {v : Half} (h : v.toNat ≤ 0x7FFF) : (scaleTemp v).toNat = v.toNat / 16 := by
  have hm : v.msb = false := by
    rw [BitVec.msb_eq_false_iff_two_mul_lt]; omega
  rw [scaleTemp, BitVec.sshiftRight_eq_of_msb_false hm]
  simp [tempShift, Nat.shiftRight_eq_div_pow]

theorem isOneHot_shift {m : Byte} (h : isOneHot m = true) (h8 : m ≠ 0x80#8) : isOneHot (m <<< 1) = true := by
  revert m; decide

theorem isOneHot_cases {m : Byte} (h : isOneHot m = true) :
    m = 0x01#8 ∨ m = 0x02#8 ∨ m = 0x04#8 ∨ m = 0x08#8 ∨ m = 0x10#8 ∨ m = 0x20#8 ∨ m = 0x40#8 ∨ m = 0x80#8 := by
  revert m; decide

end Sys2Proof.Machine
end

