-- ==== Sys2Proof/Laws/PerInstr.lean ====
section
/-! SUPPORT. Per-instruction laws: an instruction's word is in the format its row gives it, and exactly the rows of OW_CMD8
have an instruction code, which is that word. -/

namespace Sys2Proof.Laws.WordFormat

/-- The word of an instruction has the format of its row (R104), and its instruction code, if it has one, is that word. -/
def Statement (i : Instr) : Prop :=
  ∀ c : Config, (encode c i).format = i.format ∧
    ((lineCode c i).isSome = true ↔ i.format = .owCmd8) ∧
    ∀ opc, lineCode c i = some opc → encode c i = .owCmd8 opc

theorem init : Statement .init := fun _ => ⟨rfl, by simp [lineCode, Instr.format], fun _ h => by cases h⟩

theorem step : Statement .step := fun _ => ⟨rfl, by simp [lineCode, Instr.format], fun _ h => by cases h⟩

theorem getTemp : Statement .getTemp := fun _ => ⟨rfl, by simp [lineCode, Instr.format], fun _ h => by cases h⟩

theorem getFamily : Statement .getFamily := fun _ => ⟨rfl, by simp [lineCode, Instr.format], fun _ h => by cases h⟩

theorem tick : Statement .tick := fun _ => ⟨rfl, by simp [lineCode, Instr.format], fun _ h => by cases h⟩

theorem w0 : Statement .w0 := fun _ => ⟨rfl, by simp [lineCode, Instr.format], fun _ h => by cases h⟩

theorem w1 : Statement .w1 := fun _ => ⟨rfl, by simp [lineCode, Instr.format], fun _ h => by cases h⟩

theorem rd : Statement .rd := fun _ => ⟨rfl, by simp [lineCode, Instr.format], fun _ h => by cases h⟩

theorem rst : Statement .rst := fun _ => ⟨rfl, by simp [lineCode, Instr.format], fun _ h => by cases h⟩

theorem readRom : Statement .readRom := fun _ => ⟨rfl, by simp [lineCode, Instr.format], fun _ h => by rw [← Option.some.inj h]; rfl⟩

theorem matchRom : Statement .matchRom := fun _ => ⟨rfl, by simp [lineCode, Instr.format], fun _ h => by rw [← Option.some.inj h]; rfl⟩

theorem skipRom : Statement .skipRom := fun _ => ⟨rfl, by simp [lineCode, Instr.format], fun _ h => by rw [← Option.some.inj h]; rfl⟩

theorem alarmSearch : Statement .alarmSearch := fun _ => ⟨rfl, by simp [lineCode, Instr.format], fun _ h => by rw [← Option.some.inj h]; rfl⟩

theorem convertT : Statement .convertT := fun _ => ⟨rfl, by simp [lineCode, Instr.format], fun _ h => by rw [← Option.some.inj h]; rfl⟩

theorem writeScratchpad : Statement .writeScratchpad := fun _ => ⟨rfl, by simp [lineCode, Instr.format], fun _ h => by rw [← Option.some.inj h]; rfl⟩

theorem readScratchpad : Statement .readScratchpad := fun _ => ⟨rfl, by simp [lineCode, Instr.format], fun _ h => by rw [← Option.some.inj h]; rfl⟩

theorem copyScratchpad : Statement .copyScratchpad := fun _ => ⟨rfl, by simp [lineCode, Instr.format], fun _ h => by rw [← Option.some.inj h]; rfl⟩

theorem readPowerSupply : Statement .readPowerSupply := fun _ => ⟨rfl, by simp [lineCode, Instr.format], fun _ h => by rw [← Option.some.inj h]; rfl⟩

end Sys2Proof.Laws.WordFormat
end

