-- ==== Sys2Proof/Laws/Script.lean ====
section
/-! SUPPORT. How runs compose: calls of a sub-machine and TSTEPs in sequence, and one TSTEP as a progressing STEP. -/

namespace Sys2Proof.Machine

/-- A TSTEP is a STEP with a tick pending (R106). -/
theorem tstep_eq {s : State} (hi : s.initialised = true) : tstep s = exec .step (setTick s) := by
  simp [tstep, exec, execTick, whenInitialised, hi, andThen]

theorem tsteps_one {s t : State} (h : tstep s = .next t) : tsteps 1 s = .next t := by
  simp [tsteps, h, andThen]

theorem tsteps_append {m n : Nat} {s t u : State} (h1 : tsteps m s = .next t) (h2 : tsteps n t = .next u) :
    tsteps (m + n) s = .next u := by
  induction m generalizing s with
  | zero => cases h1; simpa using h2
  | succ m ih =>
    rw [Nat.succ_add]
    simp only [tsteps] at h1 ⊢
    cases hs : tstep s with
    | next v => rw [hs] at h1; exact ih h1
    | fault f => rw [hs] at h1; cases h1
    | refused r => rw [hs] at h1; cases h1

theorem calls_one {f : State → Except Fault SubDone} {s : State} {d : SubDone} (h : f (setTick s) = .ok d) :
    calls f 1 s = .ok ([d.status], d.state) := by
  simp [calls, h]

theorem calls_one_inv {f : State → Except Fault SubDone} {s t : State} {l : List Status}
    (h : calls f 1 s = .ok (l, t)) : ∃ d, f (setTick s) = .ok d ∧ l = [d.status] ∧ t = d.state := by
  simp only [calls] at h
  cases hf : f (setTick s) with
  | error e => rw [hf] at h; cases h
  | ok d => rw [hf] at h; cases h; exact ⟨d, rfl, rfl, rfl⟩

theorem calls_append {f : State → Except Fault SubDone} {m n : Nat} {s t u : State} {l1 l2 : List Status}
    (h1 : calls f m s = .ok (l1, t)) (h2 : calls f n t = .ok (l2, u)) : calls f (m + n) s = .ok (l1 ++ l2, u) := by
  induction m generalizing s l1 with
  | zero => cases h1; simpa using h2
  | succ m ih =>
    rw [Nat.succ_add]
    simp only [calls] at h1 ⊢
    cases hf : f (setTick s) with
    | error e => rw [hf] at h1; cases h1
    | ok d =>
      rw [hf] at h1
      simp only at h1 ⊢
      cases hc : calls f m d.state with
      | error e => rw [hc] at h1; cases h1
      | ok p =>
        rw [hc] at h1; cases h1
        rw [ih hc]; rfl

theorem calls_split {f : State → Except Fault SubDone} {m n : Nat} {s u : State} {l : List Status}
    (h : calls f (m + n) s = .ok (l, u)) :
    ∃ l1 l2 t, calls f m s = .ok (l1, t) ∧ calls f n t = .ok (l2, u) ∧ l = l1 ++ l2 ∧ l1.length = m := by
  induction m generalizing s l with
  | zero => rw [Nat.zero_add] at h; exact ⟨[], l, s, rfl, h, rfl, rfl⟩
  | succ m ih =>
    rw [Nat.succ_add] at h
    simp only [calls] at h ⊢
    cases hf : f (setTick s) with
    | error e => rw [hf] at h; cases h
    | ok d =>
      rw [hf] at h
      simp only at h
      cases hc : calls f (m + n) d.state with
      | error e => rw [hc] at h; cases h
      | ok p =>
        rw [hc] at h; cases h
        obtain ⟨l1, l2, t, e1, e2, e3, e4⟩ := ih hc
        refine ⟨d.status :: l1, l2, t, ?_, e2, by simp [e3], by simp [e4]⟩
        simp only [e1]

/-- An RD slot with a tick set and a sample listed, as one update (R127). -/
theorem doneRd_listed {s : State} {b : Bool} {bs : List Bool} (h : s.samples = b :: bs) :
    lineLevel (setTick s) = b ∧
      doneRd (setTick s) =
        { s with tickFlag := false, owDriveLow := false, samples := bs, busTrace := s.busTrace ++ [.rd b] } := by
  obtain ⟨⟩ := s
  simp only at h
  subst h
  exact ⟨rfl, rfl⟩

end Sys2Proof.Machine
end

