-- ==== Sys2Proof/Tests/Slice0.lean ====
section
/-! SUPPORT. The model's own tests: the checks of WellFormed refusing an ill-formed term, the words of the encoding tables, one
or two single steps for each instruction with the results of spec/95_test_vectors.md, and a witness for the hypotheses of
each statement. -/

namespace Sys2Proof.Tests

open Sys2Proof.Machine

/-! ## Helpers -/

/-- A field of the next state, if there is one. -/
def after {α : Type} (o : Host.Outcome State Fault Refusal) (f : State → α) : Option α :=
  match o with
  | .next s    => some (f s)
  | .fault _   => none
  | .refused _ => none

/-- The fault, if there is one. -/
def faultOf (o : Host.Outcome State Fault Refusal) : Option Fault :=
  match o with
  | .next _    => none
  | .fault f   => some f
  | .refused _ => none

/-- The refusal, if there is one. -/
def refusalOf (o : Host.Outcome State Fault Refusal) : Option Refusal :=
  match o with
  | .next _    => none
  | .fault _   => none
  | .refused r => some r

/-- The last response. -/
def lastResponse (s : State) : Option Response := s.responses.getLast?

/-- The launch state with a tick pending and a sample stream. -/
def ticked (stream : List Bool) : State := { State.reset with tickFlag := true, samples := stream }

/-- In MASTER_RESET after the reset pulse, a tick pending. -/
def presence (p : PdState) (n : BitVec 3) (stream : List Bool) : State :=
  { ticked stream with resetIssued := true, pdState := p, pdCount := n }

/-- In MASTER_READ_ROM, a tick pending. -/
def readingRom (tx : TxnState) (mask : Byte) (stream : List Bool) : State :=
  { ticked stream with seqState := .masterReadRom, resetIssued := true, txnState := tx, encMask := mask }

/-- In MASTER_TX_FN_COMMAND, a tick pending. -/
def txFn (conv : Bool) (tx : TxnState) (mask : Byte) (stream : List Bool) : State :=
  { ticked stream with
    seqState := .masterTxFnCommand, resetIssued := true, convTriggered := conv, txnState := tx, encMask := mask }

/-- In the read-back, at index `i` of the accumulator. -/
def readBack (i : BitVec 4) (acc : Half) (stream : List Bool) : State :=
  { txFn true .reading 0x01#8 stream with spIdx := i, tempAcc := acc }

/-- In the ROM reply, at phase, byte and bit. -/
def romAt (p : RomPhase) (byte bit : BitVec 3) (stream : List Bool) : State :=
  { readingRom .reading 0x01#8 stream with romPhase := p, romByte := byte, romBit := bit }

/-- ROM_A's reply stream (95_test_vectors.md). -/
def romA : List Bool :=
  [false, false, false, true, false, true, false, false] ++ [true, false, false, false, false, false, false, false] ++
  [true, true, false, false, false, true, false, false] ++ [true, false, true, false, false, false, true, false] ++
  [true, true, true, false, false, true, true, false] ++ [true, false, false, true, false, false, false, true] ++
  [true, true, false, true, false, true, false, true] ++ [true, false, true, true, false, false, true, true]

/-- T(0x0191) (95_test_vectors.md). -/
def t0191 : List Bool :=
  [true, false, false, false, true, false, false, true, true, false, false, false, false, false, false]

/-! ## WellFormed -/

theorem test_wf_standard : Config.standard.wellFormed = true := by decide

/-- R101, first pair: READ ROM and CONVERT T. -/
theorem test_wf_refuses_rom_convert : { Config.standard with opcConvertT := 0x33#8 }.wellFormed = false := by decide

/-- R101, second pair: READ ROM and READ SCRATCHPAD. -/
theorem test_wf_refuses_rom_scratchpad : { Config.standard with opcReadScratchpad := 0x33#8 }.wellFormed = false := by
  decide

/-- R101, third pair: CONVERT T and READ SCRATCHPAD. -/
theorem test_wf_refuses_convert_scratchpad : { Config.standard with opcReadScratchpad := 0x44#8 }.wellFormed = false := by
  decide

/-- A coincidence outside the three codes is well-formed, and its word does not name an instruction alone. -/
theorem test_wf_refuses_shared_code :
    { Config.standard with opcMatchRom := 0xCC#8 }.wellFormed = true ∧
    Instr.matchRom.wellFormed { Config.standard with opcMatchRom := 0xCC#8 } = false ∧
    Instr.skipRom.wellFormed { Config.standard with opcMatchRom := 0xCC#8 } = false := by decide

/-- Each of the nine codes is checked: with two parameters at one value, neither instruction is well-formed. -/
theorem test_wf_refuses_each_code :
    Instr.readRom.wellFormed { Config.standard with opcMatchRom := 0x33#8 } = false ∧
    Instr.alarmSearch.wellFormed { Config.standard with opcMatchRom := 0xEC#8 } = false ∧
    Instr.convertT.wellFormed { Config.standard with opcMatchRom := 0x44#8 } = false ∧
    Instr.writeScratchpad.wellFormed { Config.standard with opcMatchRom := 0x4E#8 } = false ∧
    Instr.readScratchpad.wellFormed { Config.standard with opcMatchRom := 0xBE#8 } = false ∧
    Instr.copyScratchpad.wellFormed { Config.standard with opcMatchRom := 0x48#8 } = false ∧
    Instr.readPowerSupply.wellFormed { Config.standard with opcMatchRom := 0xB4#8 } = false := by decide

/-! ## The words, written out from R90, R92, R93 and R99 -/

/-- R90 (V-ENCODING). -/
theorem test_decode_host :
    decode Config.standard (.hostCmd2 0b00#2) = .ok .init ∧ decode Config.standard (.hostCmd2 0b01#2) = .ok .step ∧
    decode Config.standard (.hostCmd2 0b10#2) = .ok .getTemp ∧
    decode Config.standard (.hostCmd2 0b11#2) = .ok .getFamily := ⟨rfl, rfl, rfl, rfl⟩

/-- R93. -/
theorem test_decode_tick : decode Config.standard (.tick1 0b1#1) = .ok .tick := rfl

/-- R92 (V-ENCODING). -/
theorem test_decode_slot :
    decode Config.standard (.slotOp3 0b001#3) = .ok .w0 ∧ decode Config.standard (.slotOp3 0b010#3) = .ok .w1 ∧
    decode Config.standard (.slotOp3 0b011#3) = .ok .rd ∧ decode Config.standard (.slotOp3 0b100#3) = .ok .rst :=
  ⟨rfl, rfl, rfl, rfl⟩

/-- R99: 0x33, 0x55, 0xCC, 0xEC, 0x44, 0x4E, 0xBE, 0x48 and 0xB4 bit by bit. -/
theorem test_decode_codes :
    decode Config.standard (.owCmd8 0b00110011#8) = .ok .readRom ∧
    decode Config.standard (.owCmd8 0b01010101#8) = .ok .matchRom ∧
    decode Config.standard (.owCmd8 0b11001100#8) = .ok .skipRom ∧
    decode Config.standard (.owCmd8 0b11101100#8) = .ok .alarmSearch ∧
    decode Config.standard (.owCmd8 0b01000100#8) = .ok .convertT ∧
    decode Config.standard (.owCmd8 0b01001110#8) = .ok .writeScratchpad ∧
    decode Config.standard (.owCmd8 0b10111110#8) = .ok .readScratchpad ∧
    decode Config.standard (.owCmd8 0b01001000#8) = .ok .copyScratchpad ∧
    decode Config.standard (.owCmd8 0b10110100#8) = .ok .readPowerSupply :=
  ⟨rfl, rfl, rfl, rfl, rfl, rfl, rfl, rfl, rfl⟩

/-- Search ROM 0xF0 and Recall E2 0xB8 are outside the nine codes (R161); slot codes 000 and 101 name no primitive. -/
theorem test_decode_rejects :
    decode Config.standard (.owCmd8 0xF0#8) = .error (.unknownCode 0xF0#8) ∧
    decode Config.standard (.owCmd8 0xB8#8) = .error (.unknownCode 0xB8#8) ∧
    decode Config.standard (.slotOp3 0b000#3) = .error .slotNone ∧
    decode Config.standard (.slotOp3 0b101#3) = .error (.reservedSlot 0b101#3) ∧
    decode Config.standard (.tick1 0#1) = .error .noPulse := ⟨rfl, rfl, rfl, rfl, rfl⟩

/-- The table's words at their own widths. -/
theorem test_table_words :
    decodeTableWord 2 0 = some .init ∧ decodeTableWord 2 1 = some .step ∧ decodeTableWord 2 2 = some .getTemp ∧
    decodeTableWord 2 3 = some .getFamily ∧ decodeTableWord 1 1 = some .tick ∧ decodeTableWord 3 1 = some .w0 ∧
    decodeTableWord 3 2 = some .w1 ∧ decodeTableWord 3 3 = some .rd ∧ decodeTableWord 3 4 = some .rst ∧
    decodeTableWord 8 0x33 = some .readRom ∧ decodeTableWord 8 0xB4 = some .readPowerSupply ∧
    decodeTableWord 8 0xF0 = none ∧ decodeTableWord 8 0x133 = none := by decide

/-- The numbers of the enumerations (V-ENCODING; R27, R30, R31, R38). -/
theorem test_enum_codes :
    [Status.pending, .finished, .error].map statusCode = [0#2, 1#2, 2#2] ∧
    [Cause.none, .presenceTimeout, .invalidState, .unsupportedReply].map causeCode = [0#2, 1#2, 2#2, 3#2] ∧
    [SlotCode.none, .w0, .w1, .rd, .rst].map slotCode = [0b000#3, 0b001#3, 0b010#3, 0b011#3, 0b100#3] ∧
    [PdState.waitLow, .countLow, .terminal].map pdStateCode = [0#2, 1#2, 2#2] ∧
    [TxnState.writing, .reading].map txnStateCode = [0#1, 1#1] ∧
    [RomPhase.family, .serial, .crc].map romPhaseCode = [0#2, 1#2, 2#2] ∧
    [SeqState.masterReset, .masterReadRom, .masterTxFnCommand, .invalid].map seqStateCode = [0#2, 1#2, 2#2, 3#2] := by
  decide

/-! ## One or two steps for each instruction -/

/-- INIT: V-HOST 6; the control and data registers return, and the bus trace stays. -/
theorem test_init :
    after (exec .init { readBack 7#4 0x1234#16 [] with busTrace := [.rst], romFamily := 0x28#8, tempOut := 0x19#16 })
      (fun s => (s.seqState, s.spIdx, s.tempOut, s.tickFlag, s.busTrace)) =
      some (.masterReset, 0#4, 0#16, false, [.rst]) := by decide

/-- INIT is allowed before the first INIT, and STEP is not (R291). -/
theorem test_init_first :
    after (exec .init { State.reset with initialised := false }) (·.initialised) = some true ∧
    refusalOf (exec .step { State.reset with initialised := false }) = some .notInitialised := by decide

/-- STEP: V-PRIM 1 and V-SEQ 1; V-TICK 4, the idle STEP. -/
theorem test_step_reset_pulse :
    after (exec .step (ticked [])) (fun s => (lastResponse s, s.busTrace, s.resetIssued, s.tickFlag)) =
      some (some ⟨.pending, .none, .rst, false, 0#16⟩, [.rst], true, false) ∧
    after (exec .step State.reset) lastResponse = some (some ⟨.pending, .none, .none, false, 0#16⟩) := by decide

/-- STEP: V-SEQ 6, the completing step of the read-back. -/
theorem test_step_publishes :
    after (exec .step (readBack 15#4 0x0191#16 []))
      (fun s => (lastResponse s, s.tempOut, s.seqState, s.resetIssued, s.convTriggered)) =
      some (some ⟨.finished, .none, .rst, false, 0#16⟩, 0x0019#16, .masterReset, false, false) := by decide

/-- GET_TEMP: V-HOST 5 and 7, the published value and not the accumulator; the tick is kept. -/
theorem test_get_temp :
    after (exec .getTemp { readBack 7#4 0x0011#16 [] with tempOut := 0x0019#16 })
      (fun s => (lastResponse s, s.tickFlag)) = some (some ⟨.finished, .none, .none, false, 0x0019#16⟩, true) := by decide

/-- GET_FAMILY: V-HOST 4. -/
theorem test_get_family :
    after (exec .getFamily { State.reset with familyOut := 0x28#8 }) lastResponse =
      some (some ⟨.finished, .none, .none, false, 0x0028#16⟩) := by decide

/-- TICK: V-TICK 1 and 2. -/
theorem test_tick :
    after (exec .tick State.reset) (fun s => (s.tickFlag, s.busTrace)) = some (true, []) ∧
    after (exec .tick (ticked [])) (·.tickFlag) = some true := by decide

/-- W0: R125, and R123 (1). -/
theorem test_w0 :
    after (exec .w0 (ticked [])) (fun s => (s.busTrace, s.tickFlag, s.owDriveLow)) = some ([.w0], false, false) ∧
    faultOf (exec .w0 State.reset) = some .noTick := by decide

/-- W1: R126. -/
theorem test_w1 :
    after (exec .w1 (ticked [])) (fun s => (s.busTrace, s.tickFlag, s.owDriveLow)) = some ([.w1], false, false) := by
  decide

/-- RD: R127; one sample is taken. -/
theorem test_rd :
    after (exec .rd (ticked [true, false])) (fun s => (s.busTrace, s.samples, s.tickFlag)) =
      some ([.rd true], [false], false) := by decide

/-- RST: R128. -/
theorem test_rst :
    after (exec .rst { ticked [true] with suspend := true }) (fun s => (s.busTrace, s.suspend, s.samples)) =
      some ([.rst], false, [true]) := by decide

/-- READ_ROM: V-PRIM 3 and V-TXN, bit 0 of 0x33 and the switch after the 8th bit. -/
theorem test_read_rom_write :
    after (exec .readRom (ticked [])) (fun s => (s.busTrace, s.encMask, s.txnState)) = some ([.w1], 0x02#8, .writing) ∧
    after (exec .readRom { ticked [] with encMask := 0x80#8 }) (fun s => (s.busTrace, s.encMask, s.txnState)) =
      some ([.w0], 0x01#8, .reading) := by decide

/-- READ_ROM: V-ROM 5, bit 0 clears the old byte; and the 64th bit. -/
theorem test_read_rom_read :
    after (exec .readRom { romAt .family 0#3 0#3 [true] with romFamily := 0x28#8 }) (fun s => (s.romFamily, s.romBit)) =
      some (0x01#8, 1#3) ∧
    after (exec .readRom { romAt .crc 0#3 7#3 [true] with romFamily := 0x28#8, romCrc := 0x4D#8 })
      (fun s => (s.romCrc, s.familyOut, s.romPhase, s.txnState)) = some (0xCD#8, 0x28#8, .family, .writing) := by decide

/-- MATCH_ROM: V-ENC, slot 2 of 0x55; no reply decoder (R189). -/
theorem test_match_rom :
    after (exec .matchRom { ticked [] with encMask := 0x02#8 }) (·.busTrace) = some [.w0] ∧
    after (exec .matchRom { ticked [true] with txnState := .reading }) lastResponse =
      some (some ⟨.error, .unsupportedReply, .rd, true, 0#16⟩) := by decide

/-- SKIP_ROM: V-ENC, slots 1 and 3 of 0xCC. -/
theorem test_skip_rom :
    after (exec .skipRom (ticked [])) (·.busTrace) = some [.w0] ∧
    after (exec .skipRom { ticked [] with encMask := 0x04#8 }) (·.busTrace) = some [.w1] := by decide

/-- ALARM_SEARCH: V-ENC, slots 5 and 6 of 0xEC. -/
theorem test_alarm_search :
    after (exec .alarmSearch { ticked [] with encMask := 0x10#8 }) (·.busTrace) = some [.w0] ∧
    after (exec .alarmSearch { ticked [] with encMask := 0x20#8 }) (·.busTrace) = some [.w1] := by decide

/-- CONVERT_T: V-ENC, slot 3 of 0x44; V-CONV, a 0 and then a 1. -/
theorem test_convert_t :
    after (exec .convertT { ticked [] with encMask := 0x04#8 }) (·.busTrace) = some [.w1] ∧
    after (exec .convertT { ticked [false] with txnState := .reading }) (·.txnState) = some .reading ∧
    after (exec .convertT { ticked [true] with txnState := .reading }) (·.txnState) = some .writing := by decide

/-- WRITE_SCRATCHPAD: V-ENC, slots 1 and 2 of 0x4E. -/
theorem test_write_scratchpad :
    after (exec .writeScratchpad (ticked [])) (·.busTrace) = some [.w0] ∧
    after (exec .writeScratchpad { ticked [] with encMask := 0x02#8 }) (·.busTrace) = some [.w1] := by decide

/-- READ_SCRATCHPAD: V-SP, the corner vectors at index 0 and 14. -/
theorem test_read_scratchpad_collect :
    after (exec .readScratchpad (readBack 0#4 0x0019#16 [true])) (fun s => (s.tempAcc, s.spIdx)) =
      some (0x0001#16, 1#4) ∧
    after (exec .readScratchpad (readBack 14#4 0x0191#16 [true])) (fun s => (s.tempAcc, s.spIdx)) =
      some (0x4191#16, 15#4) := by decide

/-- READ_SCRATCHPAD: V-SP, index 15; no sample is consumed. -/
theorem test_read_scratchpad_terminate :
    after (exec .readScratchpad (readBack 15#4 0x0191#16 [true]))
      (fun s => (lastResponse s, s.spIdx, s.samples, s.busTrace)) =
      some (some ⟨.finished, .none, .rst, false, 0#16⟩, 0#4, [true], [.rst]) := by decide

/-- COPY_SCRATCHPAD: V-ENC, slots 3 and 4 of 0x48. -/
theorem test_copy_scratchpad :
    after (exec .copyScratchpad { ticked [] with encMask := 0x04#8 }) (·.busTrace) = some [.w0] ∧
    after (exec .copyScratchpad { ticked [] with encMask := 0x08#8 }) (·.busTrace) = some [.w1] := by decide

/-- READ_POWER_SUPPLY: V-ENC, slots 7 and 8 of 0xB4. -/
theorem test_read_power_supply :
    after (exec .readPowerSupply { ticked [] with encMask := 0x40#8 }) (·.busTrace) = some [.w0] ∧
    after (exec .readPowerSupply { ticked [] with encMask := 0x80#8 }) (·.busTrace) = some [.w1] := by decide

/-- Negative temperatures lose their sign: V-SP, row 0xFE6F. -/
theorem test_scale :
    scaleTemp 0x7E6F#16 = 0x07E6#16 ∧ scaleTemp 0x7FFF#16 = 0x07FF#16 ∧ scaleTemp 0x0008#16 = 0x0000#16 := by decide

/-- A step fetches and runs a placed word. -/
theorem test_placed_word :
    after (step (State.reset.withFetchWord 3 4)) (·.busTrace) = some [.rst] ∧
    after (step (State.reset.withFetchWord 8 0x33)) (·.busTrace) = some [.w1] ∧
    after (step (State.reset.withFetchWord 1 1)) (·.tickFlag) = some true := by decide

/-! ## Witnesses: for each statement with hypotheses, a state and operands that meet them together -/

theorem reset_regs_legal : RegsLegal State.reset := by constructor <;> decide

theorem readingRom_regs_legal : RegsLegal (readingRom .reading 0x01#8 [true]) := by constructor <;> decide

theorem txFn_regs_legal (conv : Bool) : RegsLegal (txFn conv .reading 0x01#8 [true]) := by
  cases conv <;> constructor <;> decide

theorem readBack_regs_legal : RegsLegal (readBack 15#4 0x0191#16 []) := by constructor <;> decide

/-- A launched state with a TICK and then a STEP to come. -/
def twoLines : State := launch [.tick, .step] [false]

theorem twoLines_inv : Inv twoLines := by
  refine ⟨?_, ?_, ?_, ?_, ?_, ?_, ?_, ?_⟩
  · constructor <;> decide
  all_goals decide

theorem twoLines_launched : Launched twoLines := by constructor <;> decide

theorem test_witness_HostCommandWords :
    { State.reset with pending := [.ports false (some 0b11#2)] }.pending = .ports false (some 0b11#2) :: [] ∧
    { State.reset with pending := [.ports false none] }.pending = .ports false none :: [] := by decide

theorem test_witness_LineCodeWords :
    0xF0#8 ∉ [0x33#8, 0x55#8, 0xCC#8, 0xEC#8, 0x44#8, 0x4E#8, 0xBE#8, 0x48#8, 0xB4#8] := by decide

theorem test_witness_EncodedInstructionDecodes :
    ∀ i ∈ [Instr.init, .step, .getTemp, .getFamily, .tick, .w0, .w1, .rd, .rst, .readRom, .matchRom, .skipRom,
      .alarmSearch, .convertT, .writeScratchpad, .readScratchpad, .copyScratchpad, .readPowerSupply],
      i.wellFormed Config.standard = true := by decide

theorem test_witness_DecodedWordEncodesBack : decode Config.standard (.owCmd8 0xB4#8) = .ok .readPowerSupply := rfl

theorem test_witness_StepRunsDecodedInput :
    let s : State := { State.reset with pending := [.code 0x44#8] }
    s.cfg.wellFormed = true ∧ s.refused = false ∧ s.faulted = false ∧
      decode s.cfg (.owCmd8 0x44#8) = .ok .convertT ∧ s.pending = inputOf (.owCmd8 0x44#8) :: [] :=
  ⟨by decide, rfl, rfl, rfl, rfl⟩

theorem test_witness_RejectedWordsRefused :
    let s : State := { State.reset with pending := [.slot 0b111#3] }
    let u : State := { State.reset with pending := [.code 0xF0#8] }
    s.cfg.wellFormed = true ∧ s.refused = false ∧ s.faulted = false ∧
      0b111#3 ∈ [0b000#3, 0b101#3, 0b110#3, 0b111#3] ∧ s.pending = .slot 0b111#3 :: [] ∧
      0xF0#8 ∉ u.cfg.codes ∧ u.pending = .code 0xF0#8 :: [] := by decide

theorem test_witness_SimultaneousArrivals :
    let s : State := { State.reset with pending := [.ports true (some 0b01#2)] }
    s.cfg.wellFormed = true ∧ s.refused = false ∧ s.faulted = false ∧
      s.pending = .ports true (some 0b01#2) :: [] := by decide

theorem test_witness_NothingPendingKeepsState :
    let s : State := { State.reset with pending := [.ports false none] }
    State.reset.cfg.wellFormed = true ∧ State.reset.refused = false ∧ State.reset.faulted = false ∧
      State.reset.pending = [] ∧ s.cfg.wellFormed = true ∧ s.refused = false ∧ s.faulted = false ∧
      s.pending = .ports false none :: [] := by decide

theorem test_witness_EventsBeforeInitRefused :
    Instr.tick ≠ .init ∧ { State.reset with initialised := false }.initialised = false ∧
    ∃ t, exec .tick State.reset = .next t := ⟨by decide, rfl, _, rfl⟩

theorem test_witness_StopsAreKept :
    step { State.reset with pending := [.slot 0b001#3] } = .fault .noTick ∧
    step { State.reset with pending := [.slot 0b111#3] } = .refused (.noSuchSlot 0b111#3) ∧
    (∃ t, exec .step State.reset = .next t) ∧
    { State.reset with refused := true }.refused = true ∧ { State.reset with faulted := true }.faulted = true ∧
    { State.reset with cfg := { Config.standard with opcConvertT := 0x33#8 } }.cfg.wellFormed = false :=
  ⟨rfl, rfl, ⟨_, rfl⟩, rfl, rfl, by decide⟩

theorem test_witness_ConfigurationNeverChanges :
    (∃ t, exec .step (ticked []) = .next t) ∧ ∃ t, step twoLines = .next t := ⟨⟨_, rfl⟩, _, rfl⟩

/-- TickSetsFlag, TicksMerge and HostReadsPublished: initialised, with no tick pending and with one. -/
theorem test_witness_initialised : State.reset.initialised = true ∧ (ticked []).initialised = true := by decide

/-- WriteSlotEffects, ReadSlotEffect (both clauses) and ResetPulseEffect. -/
theorem test_witness_slots :
    (ticked [true, false]).initialised = true ∧ (ticked [true, false]).tickFlag = true ∧
    (ticked [true, false]).samples = true :: [false] ∧
    (ticked []).initialised = true ∧ (ticked []).tickFlag = true ∧ (ticked []).samples = [] := by decide

theorem test_witness_PrimitiveWithoutTickFaults :
    State.reset.initialised = true ∧ State.reset.tickFlag = false ∧
      Instr.rd ∈ [Instr.w0, Instr.w1, Instr.rd, Instr.rst] := by decide

theorem test_witness_SlotCommonContract :
    (∃ t, exec .rd (ticked [true]) = .next t) ∧ ∃ t, exec .rst (ticked []) = .next t := ⟨⟨_, rfl⟩, _, rfl⟩

theorem test_witness_IdleStepKeepsState :
    State.reset.initialised = true ∧ State.reset.seqState ≠ .invalid ∧ State.reset.tickFlag = false := by decide

/-- V-SEQ 8 and V-ERR 3. -/
theorem test_witness_InvalidStateRecovers :
    let s : State := { State.reset with seqState := .invalid, resetIssued := true, encMask := 0x04#8 }
    s.initialised = true ∧ s.seqState = .invalid ∧
    after (exec .step s) (fun t => (t.seqState, t.resetIssued, t.encMask)) = some (.masterReset, false, 0x01#8) := by
  decide

theorem test_witness_SequencerIssuesResetPulse :
    (ticked []).initialised = true ∧ (ticked []).tickFlag = true ∧ (ticked []).seqState = .masterReset ∧
      (ticked []).resetIssued = false := by decide

/-- PresenceSampleOutcome: the sixth low (count 5), the fifth (count 4), a high after a low, and a leading high, with the
results of V-PRES. -/
theorem test_witness_PresenceSampleOutcome :
    (∀ s ∈ [presence .countLow 5#3 [false], presence .countLow 4#3 [false], presence .countLow 5#3 [true],
        presence .waitLow 0#3 [true]],
      s.initialised = true ∧ s.tickFlag = true ∧ s.seqState = .masterReset ∧ s.resetIssued = true ∧
      (s.pdState = .waitLow ∨ s.pdState = .countLow) ∧ s.pdCount ≤ 5#3) ∧
    after (exec .step (presence .countLow 5#3 [false])) (fun t => (t.pdState, t.pdCount, t.resetIssued)) =
      some (.waitLow, 0#3, false) ∧
    after (exec .step (presence .countLow 4#3 [false])) (fun t => (t.pdState, t.pdCount)) = some (.countLow, 5#3) ∧
    after (exec .step (presence .countLow 5#3 [true])) (fun t => (t.pdState, t.pdCount, t.seqState)) =
      some (.waitLow, 0#3, .masterReadRom) ∧
    after (exec .step (presence .waitLow 0#3 [true])) (fun t => (t.pdState, t.seqState)) =
      some (.waitLow, .masterReset) := by decide

theorem test_witness_StepRunsReadRom :
    let s := readingRom .reading 0x01#8 [true]
    RegsLegal s ∧ s.initialised = true ∧ s.tickFlag = true ∧ s.seqState = .masterReadRom :=
  ⟨readingRom_regs_legal, rfl, rfl, rfl⟩

theorem test_witness_StepRunsTrigger :
    let s := txFn false .reading 0x01#8 [true]
    RegsLegal s ∧ s.initialised = true ∧ s.tickFlag = true ∧ s.seqState = .masterTxFnCommand ∧ s.convTriggered = false :=
  ⟨txFn_regs_legal false, rfl, rfl, rfl, rfl⟩

theorem test_witness_StepRunsReadBack :
    let s := readBack 15#4 0x0191#16 []
    RegsLegal s ∧ s.initialised = true ∧ s.tickFlag = true ∧ s.seqState = .masterTxFnCommand ∧ s.convTriggered = true :=
  ⟨readBack_regs_legal, rfl, rfl, rfl, rfl⟩

/-- StepFrame: one state for each clause. -/
theorem test_witness_StepFrame :
    (∃ t, exec .step (presence .waitLow 0#3 [false]) = .next t) ∧ (presence .waitLow 0#3 [false]).seqState = .masterReset ∧
    (∃ t, exec .step (romAt .serial 5#3 7#3 [true]) = .next t) ∧ (romAt .serial 5#3 7#3 [true]).seqState = .masterReadRom ∧
    (∃ t, exec .step (txFn false .reading 0x01#8 [true]) = .next t) ∧
    ((txFn false .reading 0x01#8 [true]).seqState = .masterTxFnCommand ∧
      (txFn false .reading 0x01#8 [true]).convTriggered = false) ∧
    (∃ t, exec .step (readBack 15#4 0x0191#16 []) = .next t) ∧
    ((readBack 15#4 0x0191#16 []).seqState = .masterTxFnCommand ∧ (readBack 15#4 0x0191#16 []).convTriggered = true) ∧
    Config.standard.wellFormed = true :=
  ⟨⟨_, rfl⟩, rfl, ⟨_, rfl⟩, rfl, ⟨_, rfl⟩, ⟨rfl, rfl⟩, ⟨_, rfl⟩, ⟨rfl, rfl⟩, by decide⟩

/-- SequencerSelectsCode: one state for each of the three codes. -/
theorem test_witness_SequencerSelectsCode :
    (∀ s ∈ [readingRom .writing 0x80#8 [], txFn false .writing 0x80#8 [], txFn true .writing 0x80#8 []],
      s.initialised = true ∧ s.tickFlag = true ∧ isOneHot s.encMask = true ∧ s.txnState = .writing) ∧
    ((readingRom .writing 0x80#8 []).seqState = .masterReadRom ∧ 0x33#8 = (readingRom .writing 0x80#8 []).cfg.opcReadRom) ∧
    ((txFn false .writing 0x80#8 []).seqState = .masterTxFnCommand ∧ (txFn false .writing 0x80#8 []).convTriggered = false ∧
      0x44#8 = (txFn false .writing 0x80#8 []).cfg.opcConvertT) ∧
    ((txFn true .writing 0x80#8 []).seqState = .masterTxFnCommand ∧ (txFn true .writing 0x80#8 []).convTriggered = true ∧
      0xBE#8 = (txFn true .writing 0x80#8 []).cfg.opcReadScratchpad) := by decide

/-- TransactionSendsMaskedBit, at the first, an inner and the last mask. -/
theorem test_witness_TransactionSendsMaskedBit :
    ∀ s ∈ [ticked [], { ticked [] with encMask := 0x40#8 }, { ticked [] with encMask := 0x80#8 }],
      lineCode s.cfg .matchRom = some 0x55#8 ∧ s.initialised = true ∧ s.tickFlag = true ∧ s.txnState = .writing ∧
        isOneHot s.encMask = true := by decide

theorem test_witness_TransactionIdleWithoutTick :
    lineCode State.reset.cfg .skipRom = some 0xCC#8 ∧ State.reset.initialised = true ∧ State.reset.tickFlag = false := by
  decide

/-- ReadRomReplyStep: each phase, at bit 0 and at bit 7, and the serial bytes 4 and 5. -/
theorem test_witness_ReadRomReplyStep :
    ∀ s ∈ [romAt .family 0#3 0#3 [true], romAt .family 0#3 7#3 [true], romAt .serial 4#3 7#3 [true],
        romAt .serial 5#3 7#3 [true], romAt .serial 5#3 6#3 [true], romAt .crc 0#3 6#3 [true], romAt .crc 0#3 7#3 [true]],
      s.cfg.wellFormed = true ∧ s.initialised = true ∧ s.tickFlag = true ∧ s.txnState = .reading ∧ s.romByte ≤ 5#3 ∧
        (s.romPhase = .family ∨ s.romPhase = .serial ∨ s.romPhase = .crc) := by decide

theorem test_witness_ConvertReplyPoll :
    ∀ s ∈ [txFn false .reading 0x01#8 [true], txFn false .reading 0x01#8 [false]],
      s.initialised = true ∧ s.tickFlag = true ∧ s.txnState = .reading := by decide

/-- ScratchpadReplyStep: index 0 and 14, and the terminating index 15. -/
theorem test_witness_ScratchpadReplyStep :
    (∀ s ∈ [readBack 0#4 0x0019#16 [true], readBack 14#4 0x0191#16 [true], readBack 15#4 0x0191#16 []],
      s.cfg.wellFormed = true ∧ s.initialised = true ∧ s.tickFlag = true ∧ s.txnState = .reading) ∧
    (readBack 0#4 0x0019#16 [true]).spIdx ≠ 15#4 ∧ (readBack 14#4 0x0191#16 [true]).spIdx ≠ 15#4 ∧
    (readBack 15#4 0x0191#16 []).spIdx = 15#4 := by decide

theorem test_witness_UnsupportedReplyError :
    let s : State := { ticked [true] with txnState := .reading }
    lineCode s.cfg .copyScratchpad = some 0x48#8 ∧ 0x48#8 ≠ s.cfg.opcReadRom ∧ 0x48#8 ≠ s.cfg.opcConvertT ∧
      0x48#8 ≠ s.cfg.opcReadScratchpad ∧ s.initialised = true ∧ s.tickFlag = true ∧ s.txnState = .reading := by decide

/-- ReservedRegistersFault: a state for each clause. -/
theorem test_witness_ReservedRegistersFault :
    (∀ s ∈ [presence .terminal 0#3 [true], presence .reserved 0#3 [true], presence .countLow 6#3 [true],
        presence .countLow 7#3 [true]],
      s.cfg.wellFormed = true ∧ s.initialised = true ∧ s.tickFlag = true ∧ s.seqState = .masterReset ∧
        s.resetIssued = true) ∧
    (∀ s ∈ [readingRom .writing 0x03#8 [], txFn true .writing 0x00#8 []],
      s.cfg.wellFormed = true ∧ s.initialised = true ∧ s.tickFlag = true ∧ s.txnState = .writing ∧
        isOneHot s.encMask = false ∧ lineCode s.cfg .skipRom = some 0xCC#8 ∧
        (s.seqState = .masterReadRom ∨ s.seqState = .masterTxFnCommand)) ∧
    (∀ s ∈ [romAt .reserved 0#3 0#3 [true], romAt .family 6#3 0#3 [true], romAt .serial 7#3 0#3 [true]],
      s.cfg.wellFormed = true ∧ s.initialised = true ∧ s.tickFlag = true ∧ s.txnState = .reading ∧
        s.seqState = .masterReadRom) := by decide

theorem test_witness_LegalRegistersKept :
    RegsLegal (readingRom .reading 0x01#8 [true]) ∧ ∃ t, exec .step (readingRom .reading 0x01#8 [true]) = .next t :=
  ⟨readingRom_regs_legal, _, rfl⟩

/-- LegalStatesComplete: an instruction that needs no tick, and a primitive with one. -/
theorem test_witness_LegalStatesComplete :
    RegsLegal State.reset ∧ State.reset.initialised = true ∧
      Instr.readRom ∉ [Instr.w0, Instr.w1, Instr.rd, Instr.rst] ∧
    RegsLegal (readingRom .reading 0x01#8 [true]) ∧ (readingRom .reading 0x01#8 [true]).initialised = true ∧
      Instr.rd ∈ [Instr.w0, Instr.w1, Instr.rd, Instr.rst] ∧ (readingRom .reading 0x01#8 [true]).tickFlag = true :=
  ⟨reset_regs_legal, rfl, by decide, readingRom_regs_legal, rfl, by decide, rfl⟩

theorem test_witness_StepKeepsInvariants : Inv twoLines ∧ Launched twoLines ∧ ∃ t, step twoLines = .next t :=
  ⟨twoLines_inv, twoLines_launched, _, rfl⟩

/-- ReachableStatesMeetInvariants: the default codes, and a configuration with another code for MATCH ROM. -/
theorem test_witness_ReachableStatesMeetInvariants :
    (Config.standard.wellFormed = true ∧
      ∃ t, Host.Core.run Sys2Proof.core 2 (launch [.tick, .step] [false]) = .next t) ∧
    ({ Config.standard with opcMatchRom := 0x00#8 }.wellFormed = true ∧
      ∃ t, Host.Core.run Sys2Proof.core 2
        { launch [.tick, .step] [false] with cfg := { Config.standard with opcMatchRom := 0x00#8 } } = .next t) :=
  ⟨⟨by decide, _, rfl⟩, by decide, _, rfl⟩

theorem test_witness_LaunchedMachineNeverStops : Inv twoLines ∧ Launched twoLines :=
  ⟨twoLines_inv, twoLines_launched⟩

/-- OneSlotPerProgressingStep: a progressing STEP, an idle one and one in the invalid state. -/
theorem test_witness_OneSlotPerProgressingStep :
    (∃ t, exec .step (ticked []) = .next t) ∧ (ticked []).tickFlag = true ∧ (ticked []).seqState ≠ .invalid ∧
    (∃ t, exec .step State.reset = .next t) ∧ State.reset.tickFlag = false ∧
    (∃ t, exec .step { ticked [] with seqState := .invalid } = .next t) :=
  ⟨⟨_, rfl⟩, rfl, by decide, ⟨_, rfl⟩, rfl, _, rfl⟩

theorem test_witness_TraceGrowsBySlotsOnly :
    (∃ t, exec .skipRom (ticked []) = .next t) ∧ (∃ t, exec .init (ticked []) = .next t) ∧
      Instr.init ∈ [Instr.init, Instr.tick, Instr.getTemp, Instr.getFamily] := ⟨⟨_, rfl⟩, ⟨_, rfl⟩, by decide⟩

/-- PublishedValuesChangeOnCompletion: a step that changes `temp_out`, and one that changes `family_out`. -/
theorem test_witness_PublishedValuesChangeOnCompletion :
    (∃ t, (readBack 15#4 0x0191#16 []).cfg.wellFormed = true ∧ exec .step (readBack 15#4 0x0191#16 []) = .next t ∧
      t.tempOut ≠ (readBack 15#4 0x0191#16 []).tempOut) ∧
    (∃ t, exec .step { romAt .crc 0#3 7#3 [true] with romFamily := 0x28#8 } = .next t ∧ t.familyOut ≠ 0x00#8) :=
  ⟨⟨_, by decide, rfl, by decide⟩, _, rfl, by decide⟩

theorem test_witness_RomRecordWriters :
    ∃ t, (romAt .serial 5#3 0#3 [true]).cfg.wellFormed = true ∧ exec .step (romAt .serial 5#3 0#3 [true]) = .next t ∧
      t.romSerial ≠ (romAt .serial 5#3 0#3 [true]).romSerial := ⟨_, by decide, rfl, by decide⟩

theorem test_witness_StepStatusLaw :
    (readBack 15#4 0x0191#16 []).cfg.wellFormed = true ∧ ∃ t, exec .step (readBack 15#4 0x0191#16 []) = .next t :=
  ⟨by decide, _, rfl⟩

theorem test_witness_ErrorSources :
    (∃ t, exec .step (presence .countLow 5#3 [false]) = .next t) ∧
    (Instr.getTemp ∈ [Instr.init, Instr.getTemp, Instr.getFamily] ∧ ∃ t, exec .getTemp State.reset = .next t) ∧
    ∃ t, exec .tick State.reset = .next t := ⟨⟨_, rfl⟩, ⟨by decide, _, rfl⟩, _, rfl⟩

theorem test_witness_SerialAndCrcNeverRead : ∃ t, exec .step (romAt .serial 5#3 0#3 [true]) = .next t := ⟨_, rfl⟩

theorem test_witness_BackToBackResets :
    ∃ t r, (readBack 15#4 0x0191#16 []).cfg.wellFormed = true ∧ exec .step (readBack 15#4 0x0191#16 []) = .next t ∧
      t.responses = (readBack 15#4 0x0191#16 []).responses ++ [r] ∧ r.status = .finished :=
  ⟨_, ⟨.finished, .none, .rst, false, 0#16⟩, by decide, rfl, rfl, rfl⟩

/-- PresenceTimeoutRestarts: the second cycle's sixth low (program L3-2, step 91). -/
theorem test_witness_PresenceTimeoutRestarts :
    let s : State := { presence .countLow 5#3 [false] with convTriggered := true }
    ∃ t r, exec .step s = .next t ∧ t.responses = s.responses ++ [r] ∧ r.cause = .presenceTimeout :=
  ⟨_, ⟨.error, .presenceTimeout, .rd, false, 0#16⟩, rfl, rfl, rfl⟩

theorem test_witness_SerializerSendsBitsInOrder : State.reset.encMask = 0x01#8 := by decide

theorem test_witness_RomBuilderReconstructs :
    let s : State := { State.reset with samples := romA }
    romA.length = 64 ∧ s.samples = romA ++ [] ∧ s.romPhase = .family ∧ s.romBit = 0#3 ∧ s.romByte = 0#3 := by decide

/-- ScratchpadAccumulates, on T(0x0191), whose value is 0x0191. -/
theorem test_witness_ScratchpadAccumulates :
    let s : State := { State.reset with samples := t0191 }
    t0191.length = 15 ∧ s.samples = t0191 ++ [] ∧ s.spIdx = 0#4 ∧ streamValue t0191 = 0x0191 := by decide

/-- TransactionLengths: the three transactions, the poll at its shortest and one longer. -/
theorem test_witness_TransactionLengths :
    (∀ l ∈ [romA, readyBits 1, readyBits 2, t0191],
      let s : State := { State.reset with samples := l }
      s.cfg.wellFormed = true ∧ s.txnState = .writing ∧ s.encMask = 0x01#8 ∧ s.romPhase = .family ∧ s.romBit = 0#3 ∧
        s.romByte = 0#3 ∧ s.spIdx = 0#4 ∧ s.samples = l ++ []) ∧
    romA.length = 64 ∧ t0191.length = 15 := by decide

theorem test_witness_PresenceHangsOnHighLine :
    let s : State := { State.reset with samples := [true, true, true] }
    s.samples = List.replicate 3 true ++ [] ∧ s.pdState = .waitLow ∧ s.pdCount = 0#3 := by decide

theorem test_witness_ReadyPollHangsOnBusy :
    let s := txFn false .reading 0x01#8 [false, false, false]
    s.samples = List.replicate 3 false ++ [] ∧ s.txnState = .reading := by decide

/-- RoundTrace: program L3-1's sample stream. -/
theorem test_witness_RoundTrace :
    let s : State := { State.reset with samples := presenceBits 0 1 ++ romA ++ readyBits 1 ++ presenceBits 0 1 ++ romA ++ t0191 }
    s.cfg.wellFormed = true ∧ s.initialised = true ∧ atRest s ∧ romA.length = 64 ∧ t0191.length = 15 ∧
      s.samples = presenceBits 0 1 ++ romA ++ readyBits 1 ++ presenceBits 0 1 ++ romA ++ t0191 ++ [] :=
  ⟨by decide, rfl, rfl, by decide, by decide, by decide⟩

end Sys2Proof.Tests
end

section
/-! SUPPORT. A step on an encoded word: the word is taken off the inputs, decoded, and its instruction run. -/

namespace Sys2Proof.Machine

variable {s : State} {w : CodeWord} {i : Instr} {rest : List Input}

/-- A word that decodes is an event to process, in the state it was taken in. -/
theorem takeWord_of_decode (h : decode s.cfg w = .ok i) : takeWord w s = .run i s := by
  rw [takeWord, h]

/-- The input that delivers a word is read as that word, on whichever interface it lives. -/
theorem takeInput_inputOf (h : s.pending = inputOf w :: rest) :
    takeInput s = takeWord w { s with pending := rest } := by
  unfold takeInput
  rw [h]
  cases w with
  | hostCmd2 cmd => rfl
  | slotOp3 code => rfl
  | owCmd8 opc => rfl
  | tick1 strobe => obtain rfl | rfl := BitVec.eq_zero_or_eq_one strobe <;> rfl

/-- A launched step whose next input is a word that decodes to `i` runs `i`, with the input taken off (R8, R40, R71). -/
theorem step_inputOf (hw : s.cfg.wellFormed = true) (hr : s.refused = false) (hf : s.faulted = false)
    (hd : decode s.cfg w = .ok i) (hp : s.pending = inputOf w :: rest) :
    step s = exec i { s with pending := rest } := by
  have hrun : takeInput s = .run i { s with pending := rest } :=
    (takeInput_inputOf hp).trans (takeWord_of_decode hd)
  rw [step_launched hw hr hf, hrun]

/-- Settles O6: both clauses are `step_inputOf`, the second on the state in which the word has been placed, whose
configuration and marks are those of `s` and whose inputs to come, once the word is taken off, are those of `s`. -/
theorem stepRunsDecodedInput : Obligations.StepRunsDecodedInput := by
  intro s w i hw hr hf hd
  have hplaced : (placeWord w s).pending = inputOf w :: s.pending := rfl
  exact ⟨fun _ hp => step_inputOf hw hr hf hd hp, step_inputOf (s := placeWord w s) hw hr hf hd hplaced⟩

end Sys2Proof.Machine
end

section
/-! SUPPORT. Everything an instruction can do when it completes, as one inductive predicate with a case for each way. -/

namespace Sys2Proof.Machine

variable {s t : State} {i : Instr} {opc : Byte} {d : SubDone}

/-- What the sequencer makes of one step `d` of the transaction it runs: it stays in its state, or, when the transaction has
finished, it moves on (R233, R234, R235). -/
inductive SeqMove (s : State) (d : SubDone) : State → Prop where
  | stay : SeqMove s d d.state
  | romRead (hf : d.status = .finished) (hq : s.seqState = .masterReadRom) :
      SeqMove s d { d.state with seqState := .masterTxFnCommand }
  | triggered (hf : d.status = .finished) (hq : s.seqState = .masterTxFnCommand) (hc : s.convTriggered = false) :
      SeqMove s d { markConvTriggered d.state with seqState := .masterReset }
  | published (hf : d.status = .finished) (hq : s.seqState = .masterTxFnCommand) (hc : s.convTriggered = true) :
      SeqMove s d (publishTemp d.state)

/-- What the instruction `i` can make of the state `s`. -/
inductive Effect (s : State) : Instr → State → Prop where
  | init : Effect s .init (respondOk .finished .none false 0#16 (resetData (resetControl s)))
  | tick : Effect s .tick (setTick s)
  /-- A host read, an idle STEP, or a code without a pending tick: a response and nothing else. -/
  | answer (i : Instr) (r : Response) : Effect s i (respond r s)
  | w0 (ht : s.tickFlag = true) : Effect s .w0 (doneW0 s)
  | w1 (ht : s.tickFlag = true) : Effect s .w1 (doneW1 s)
  | rd (ht : s.tickFlag = true) : Effect s .rd (doneRd s)
  | rst (ht : s.tickFlag = true) : Effect s .rst (doneRst s)
  /-- A STEP in the invalid state (R236, R262). -/
  | recovered (hq : s.seqState = .invalid) : Effect s .step (raiseError .invalidState .none false s)
  /-- A STEP in MASTER_RESET (R232). -/
  | reset {t : State} (hq : s.seqState = .masterReset) (h : seqReset s = .ok t) : Effect s .step t
  /-- A STEP that runs one transaction step with the code it selects (R231). -/
  | sequenced {opc : Byte} {d : SubDone} {u : State} (r : Response) (ho : selOpc s = some opc)
      (hd : txnStep opc s = .ok d) (hm : SeqMove s d u) : Effect s .step (respond r u)
  /-- A code that runs one transaction step of its own (R151 to R159). -/
  | coded {i : Instr} {opc : Byte} {d : SubDone} (r : Response) (ho : lineCode s.cfg i = some opc)
      (hd : txnStep opc s = .ok d) : Effect s i (respond r d.state)

/-- The response of a transaction step as one `respond`. -/
theorem txnRespond_respond (d : SubDone) : ∃ r, txnRespond d = respond r d.state := txnRespond_eq d

theorem seqStep_effect (h : seqStep s = .ok t) : Effect s .step t := by
  obtain ⟨hq, rfl⟩ | ⟨-, -, rfl⟩ | ⟨-, hq, hr⟩ | ⟨-, hq, hr⟩ | ⟨-, hq, hc, hr⟩ | ⟨-, hq, hc, hr⟩ := seqStep_inv h
  · exact .recovered hq
  · exact .answer _ _
  · exact .reset hq hr
  · obtain ⟨d, hd, rfl⟩ := seqReadRom_inv hr
    refine .sequenced _ (by simp [selOpc, hq]) hd ?_
    split
    · next hf => exact .romRead hf hq
    · exact .stay
  · obtain ⟨d, hd, rfl⟩ := seqTrigger_inv hr
    refine .sequenced _ (by simp [selOpc, hq, hc]) hd ?_
    split
    · next hf => exact .triggered hf hq hc
    · exact .stay
  · obtain ⟨d, hd, rfl⟩ := seqReadBack_inv hr
    have ho : selOpc s = some s.cfg.opcReadScratchpad := by simp [selOpc, hq, hc]
    split
    · next hf => exact .sequenced _ ho hd (.published hf hq hc)
    · exact .sequenced _ ho hd .stay

theorem runTxn_effect (ho : lineCode s.cfg i = some opc) (h : runTxn opc s = .next t) : Effect s i t := by
  obtain ⟨-, ⟨-, d, hd, rfl⟩ | ⟨-, rfl⟩⟩ := runTxn_inv h
  · obtain ⟨r, hr⟩ := txnRespond_respond d
    exact hr ▸ .coded r ho hd
  · exact .answer _ _

/-- Nothing but the cases of `Effect` happens when an instruction completes. -/
theorem exec_effect (h : exec i s = .next t) : Effect s i t := by
  cases i with
  | init => exact execInit_inv h ▸ .init
  | step => exact seqStep_effect (execStep_inv h).2
  | getTemp => exact (execGetTemp_inv h).2 ▸ .answer _ _
  | getFamily => exact (execGetFamily_inv h).2 ▸ .answer _ _
  | tick => exact (execTick_inv h).2 ▸ .tick
  | w0 =>
    obtain ⟨-, e, he, rfl⟩ := runSlot_inv h
    obtain ⟨ht, rfl⟩ := withTick_ok he
    exact .w0 ht
  | w1 =>
    obtain ⟨-, e, he, rfl⟩ := runSlot_inv h
    obtain ⟨ht, rfl⟩ := withTick_ok he
    exact .w1 ht
  | rd =>
    obtain ⟨-, e, he, rfl⟩ := runSlot_inv h
    obtain ⟨ht, rfl⟩ := withTick_ok he
    exact .rd ht
  | rst =>
    obtain ⟨-, e, he, rfl⟩ := runSlot_inv h
    obtain ⟨ht, rfl⟩ := withTick_ok he
    exact .rst ht
  | readRom | matchRom | skipRom | alarmSearch | convertT | writeScratchpad | readScratchpad | copyScratchpad
  | readPowerSupply => exact runTxn_effect rfl h

end Sys2Proof.Machine
end

section
/-! SUPPORT. The legal register values of R44 items 1 to 6 and R102 are kept by each named update, each sub-machine and each
instruction. -/

namespace Sys2Proof.Machine

variable {s t : State} {i : Instr} {opc : Byte} {d : SubDone} {b : Bool}

/-- Where a counter is not yet at its bound of 5 (`PD_MAX_LOW`, the last serial byte), its successor is in bounds too. -/
theorem add_one_le_five : ∀ {c : BitVec 3}, c ≤ 5#3 → c ≠ 5#3 → c + 1 ≤ 5#3 ∧ c + 1 ≠ 0#3 := by decide

/-- The reset value of both counters is in bounds. -/
theorem zero_le_five : 0#3 ≤ 5#3 := by decide

/-- The reset value of the mask is one-hot. -/
theorem isOneHot_first : isOneHot 0x01#8 = true := by decide

theorem legal_setTick (h : RegsLegal s) : RegsLegal (setTick s) := { h with }

theorem legal_respond (r : Response) (h : RegsLegal s) : RegsLegal (respond r s) := { h with }

theorem legal_doneW0 (h : RegsLegal s) : RegsLegal (doneW0 s) := { h with line_released := rfl }

theorem legal_doneW1 (h : RegsLegal s) : RegsLegal (doneW1 s) := { h with line_released := rfl }

theorem legal_doneRd (h : RegsLegal s) : RegsLegal (doneRd s) := { h with line_released := rfl }

theorem legal_doneRst (h : RegsLegal s) : RegsLegal (doneRst s) := { h with suspend_off := rfl, line_released := rfl }

/-- A transaction that returns to WRITING puts no demand on the mask (item 4). -/
theorem legal_toWriting (h : RegsLegal s) : RegsLegal { s with txnState := .writing } := { h with reading_mask := nofun }

theorem legal_init (s : State) : RegsLegal (resetData (resetControl s)) where
  suspend_off := rfl
  line_released := rfl
  pd_state_legal := .inl rfl
  pd_count_bound := zero_le_five
  pd_count_zero := iff_of_true rfl rfl
  enc_one_hot := isOneHot_first
  reading_mask := nofun
  rom_phase_legal := nofun
  rom_byte_bound := zero_le_five
  rom_byte_zero := fun _ => rfl
  seq_legal := nofun

theorem legal_presenceReport (h : RegsLegal s) : RegsLegal (presenceReport s) :=
  { h with pd_state_legal := .inl rfl, pd_count_bound := zero_le_five, pd_count_zero := iff_of_true rfl rfl }

/-- One more low sample, below the bound (R129). -/
theorem legal_countLow (h : RegsLegal s) (h5 : s.pdCount ≠ pdMaxLow) :
    RegsLegal { s with pdCount := s.pdCount + 1, pdState := .countLow } :=
  have ⟨hle, hne⟩ := add_one_le_five h.pd_count_bound h5
  { h with pd_state_legal := .inr rfl, pd_count_bound := hle, pd_count_zero := iff_of_false nofun hne }

theorem legal_readyUpdate (h : RegsLegal s) : RegsLegal (readyUpdate b s).2 := by
  cases b with
  | false => exact h
  | true => exact legal_toWriting h

/-- The encoder's mask stays one-hot, and is 0x01 when the transaction goes to READING (items 3 and 4). -/
theorem legal_writeUpdate (h : RegsLegal s) (hw : s.txnState = .writing) :
    RegsLegal (if s.encMask = 0x80#8 then { doneWrite opc s with encMask := 0x01#8, txnState := .reading }
      else { doneWrite opc s with encMask := s.encMask <<< 1 }) := by
  rw [doneWrite_eq]
  split
  · exact { h with line_released := rfl, enc_one_hot := isOneHot_first, reading_mask := fun _ => rfl }
  · next h8 =>
    exact { h with
      line_released := rfl
      enc_one_hot := isOneHot_shift h.enc_one_hot h8
      reading_mask := fun hr => by simp [hw] at hr }

/-- The ROM builder keeps its phase and byte index legal: the index moves only in phase SERIAL (item 5). -/
theorem legal_romUpdate (h : RegsLegal s) : RegsLegal (romUpdate b s).2 := by
  obtain ⟨-, -, he⟩ | ⟨-, -, he⟩ | ⟨-, -, he⟩ | ⟨hp, -, h5, he⟩ | ⟨-, -, -, he⟩ | ⟨-, -, he⟩ | ⟨hp, -, he⟩ | ⟨-, he⟩ :=
    romUpdate_cases b s <;> rw [he]
  · exact { h with }
  · exact { h with rom_phase_legal := nofun, rom_byte_zero := fun hn => absurd rfl hn }
  · exact { h with }
  · exact { h with rom_byte_bound := (add_one_le_five h.rom_byte_bound h5).1, rom_byte_zero := fun hn => absurd hp hn }
  · exact { h with rom_phase_legal := nofun, rom_byte_bound := zero_le_five, rom_byte_zero := fun _ => rfl }
  · exact { h with }
  · exact { h with rom_phase_legal := nofun, rom_byte_zero := fun _ => h.rom_byte_zero (by simp [hp]) }
  · exact h

theorem legal_spCollect (h : RegsLegal s) : RegsLegal (spCollect b s).2 := { h with }

theorem legal_spTerminate (h : RegsLegal s) : RegsLegal (spTerminate s).2 := { h with }

theorem txnStep_keeps_legal (h : RegsLegal s) (hd : txnStep opc s = .ok d) : RegsLegal d.state := by
  have hrd := legal_doneRd h
  obtain ⟨-, ⟨hw, -, rfl⟩ | ⟨-, -, rfl⟩ | ⟨-, -, -, -, rfl⟩ | ⟨-, -, -, -, -, rfl⟩ | ⟨-, -, -, -, -, rfl⟩ |
    ⟨-, -, -, -, rfl⟩⟩ := txnStep_inv hd
  · exact legal_writeUpdate h hw
  · exact legal_readyUpdate hrd
  · dsimp only
    split
    · exact legal_romUpdate hrd
    · exact legal_toWriting (legal_romUpdate hrd)
  · exact legal_spCollect hrd
  · exact legal_toWriting (legal_spTerminate (legal_doneRst h))
  · exact legal_toWriting hrd

theorem seqReset_keeps_legal (h : RegsLegal s) (hr : seqReset s = .ok t) : RegsLegal t := by
  have hrd := legal_doneRd h
  obtain ⟨-, ⟨-, rfl⟩ | ⟨-, -, -, -, rfl⟩ | ⟨-, -, -, h5, rfl⟩ | ⟨-, -, -, -, rfl⟩ | ⟨-, -, -, -, rfl⟩⟩ :=
    seqReset_inv hr
  · exact legal_respond _ { legal_doneRst h with }
  · exact legal_respond _ { legal_presenceReport hrd with }
  · exact legal_respond _ (legal_countLow hrd h5)
  · exact legal_respond _ { legal_presenceReport hrd with seq_legal := nofun }
  · exact legal_respond _ hrd

theorem seqMove_keeps_legal {u : State} (h : RegsLegal d.state) (hm : SeqMove s d u) : RegsLegal u := by
  cases hm with
  | stay => exact h
  | romRead hf hq => exact { h with seq_legal := nofun }
  | triggered hf hq hc => exact { h with seq_legal := nofun }
  | published hf hq hc => exact { h with seq_legal := nofun }

/-- Settles O40, case by case of what an instruction can do. -/
theorem legalRegistersKept : Obligations.LegalRegistersKept := by
  intro i s t h he
  cases exec_effect he with
  | init => exact legal_respond _ (legal_init s)
  | tick => exact legal_setTick h
  | answer i r => exact legal_respond r h
  | w0 ht => exact legal_doneW0 h
  | w1 ht => exact legal_doneW1 h
  | rd ht => exact legal_doneRd h
  | rst ht => exact legal_doneRst h
  | recovered hq => exact absurd hq h.seq_legal
  | reset hq hr => exact seqReset_keeps_legal h hr
  | sequenced r ho hd hm => exact legal_respond r (seqMove_keeps_legal (txnStep_keeps_legal h hd) hm)
  | coded r ho hd => exact legal_respond r (txnStep_keeps_legal h hd)

end Sys2Proof.Machine
end

section
/-! SUPPORT. What no event changes: the codes, the marks of R50 and the rest of the script; and what that makes of a stop. -/

namespace Sys2Proof.Machine

variable {s t : State} {i : Instr} {opc : Byte} {d : SubDone}

/-- From `s` to `t` the configuration, the recorded stops and the script are the same, and the machine stays initialised. -/
structure LaunchKept (s t : State) : Prop where
  cfg         : t.cfg = s.cfg
  refused     : t.refused = s.refused
  faulted     : t.faulted = s.faulted
  pending     : t.pending = s.pending
  initialised : s.initialised = true → t.initialised = true

theorem txnStep_keeps_launch (hd : txnStep opc s = .ok d) : LaunchKept s d.state := by
  rw [txnStep_frame hd]
  exact ⟨rfl, rfl, rfl, rfl, id⟩

theorem seqReset_keeps_launch (hr : seqReset s = .ok t) : LaunchKept s t := by
  obtain ⟨-, ⟨-, rfl⟩ | ⟨-, -, -, -, rfl⟩ | ⟨-, -, -, -, rfl⟩ | ⟨-, -, -, -, rfl⟩ | ⟨-, -, -, -, rfl⟩⟩ := seqReset_inv hr
  all_goals exact ⟨rfl, rfl, rfl, rfl, id⟩

theorem seqMove_keeps_launch {u : State} (h : LaunchKept s d.state) (hm : SeqMove s d u) : LaunchKept s u := by
  cases hm <;> exact { h with }

theorem exec_keeps_launch (he : exec i s = .next t) : LaunchKept s t := by
  cases exec_effect he with
  | init => exact ⟨rfl, rfl, rfl, rfl, fun _ => rfl⟩
  | reset hq hr => exact seqReset_keeps_launch hr
  | sequenced r ho hd hm => exact { seqMove_keeps_launch (txnStep_keeps_launch hd) hm with }
  | coded r ho hd => exact { txnStep_keeps_launch hd with }
  | tick | answer | w0 | w1 | rd | rst | recovered => exact ⟨rfl, rfl, rfl, rfl, id⟩

theorem advance_of_fault {f : Fault} (h : step s = .fault f) : (advance s).faulted = true := by
  simp [advance, h, recordOutcome]

theorem advance_of_refused {r : Refusal} (h : step s = .refused r) : (advance s).refused = true := by
  simp [advance, h, recordOutcome]

/-- With a mark set the step stops, since it completes only where no stop is recorded, and the stop is recorded. -/
theorem advance_marked (hm : s.refused = true ∨ s.faulted = true) :
    (advance s).refused = true ∨ (advance s).faulted = true := by
  cases hs : step s with
  | next t =>
    obtain ⟨-, hr, hf, -⟩ := step_inv hs
    simp [hr, hf] at hm
  | fault f => exact .inr (advance_of_fault hs)
  | refused r => exact .inl (advance_of_refused hs)

theorem step_badConfiguration (h : s.cfg.wellFormed = false) : step s = .refused .badConfiguration := by
  simp [step, nextInput, launchCheck, h]

/-- Settles O14: a stop sets its mark, and the marks are among what no event changes. -/
theorem stopsAreKept : Obligations.StopsAreKept :=
  ⟨fun _ _ => advance_of_fault, fun _ _ => advance_of_refused,
    fun _ _ _ he => ⟨(exec_keeps_launch he).refused, (exec_keeps_launch he).faulted⟩,
    fun _ => advance_marked, fun _ => step_badConfiguration⟩

end Sys2Proof.Machine
end

section
/-! SUPPORT. Taking an input in a script of port arrivals: the event is one of the block's own, and the rest of the script is
port arrivals again. -/

namespace Sys2Proof.Machine

variable {s u : State} {i : Instr} {c : Config} {w : CodeWord}

/-- The events of the block's own ports: the host commands and TICK (R40, R41). -/
def portInstrs : List Instr := [.init, .step, .getTemp, .getFamily, .tick]

theorem lineCode_port (hi : i ∈ portInstrs) : lineCode c i = none := by
  simp only [portInstrs, List.mem_cons, List.not_mem_nil, or_false] at hi
  obtain rfl | rfl | rfl | rfl | rfl := hi <;> rfl

/-- A host word or a strobe, the words that call no lower layer, decodes to an event of the ports (R90, R93). -/
theorem decode_port (hw : usesTick w = false) (h : decode c w = .ok i) : i ∈ portInstrs := by
  cases w with
  | hostCmd2 cmd =>
    cases h
    exact List.mem_append_left [Instr.tick] (decodeHost_mem cmd)
  | tick1 strobe =>
    simp only [decode, decodeTick] at h
    split at h <;> cases h
    simp [portInstrs]
  | slotOp3 code => cases hw
  | owCmd8 opc => cases hw

/-- A script of port arrivals is empty, or it delivers a word of the ports and leaves such a script (R75, R77). -/
theorem takeInput_port (hp : s.pending.all atPorts = true) :
    takeInput s = .quiet s ∨
      ∃ w v, takeInput s = takeWord w v ∧ usesTick w = false ∧ v.pending.all atPorts = true := by
  unfold takeInput takeBoth
  split <;> rename_i heq <;> simp only [heq, List.all_cons, atPorts, Bool.true_and, Bool.false_and] at hp
  · exact .inl rfl
  · split <;> exact .inr ⟨_, _, rfl, rfl, by simpa [atPorts] using hp⟩
  · exact .inr ⟨_, _, rfl, rfl, hp⟩
  · exact .inr ⟨_, _, rfl, rfl, hp⟩
  · exact .inr ⟨_, _, rfl, rfl, hp⟩
  · cases hp
  · cases hp

theorem takeInput_run_port (hp : s.pending.all atPorts = true) (h : takeInput s = .run i u) :
    i ∈ portInstrs ∧ u.pending.all atPorts = true := by
  obtain hq | ⟨w, v, hv, hw, hrest⟩ := takeInput_port hp
  · cases hq.symm.trans h
  · obtain ⟨hd, rfl⟩ := takeWord_run (hv.symm.trans h)
    exact ⟨decode_port hw hd, hrest⟩

theorem takeInput_quiet_port (hp : s.pending.all atPorts = true) (h : takeInput s = .quiet u) :
    u.pending.all atPorts = true := by
  obtain hq | ⟨w, v, hv, -, hrest⟩ := takeInput_port hp
  · cases hq.symm.trans h
    exact hp
  · rw [takeWord_quiet (hv.symm.trans h)]
    exact hrest

end Sys2Proof.Machine
end

section
/-! SUPPORT. Which code the sequencer selects in which state, under R101 (R231). -/

namespace Sys2Proof.Machine

variable {s : State} {opc : Byte}

theorem selOpc_readRom_iff (hw : s.cfg.wellFormed = true) :
    selOpc s = some s.cfg.opcReadRom ↔ s.seqState = .masterReadRom := by
  obtain ⟨hrc, hrs, -⟩ := Config.wellFormed_ne hw
  cases hq : s.seqState <;> cases hc : s.convTriggered <;> simp [selOpc, hq, hc, hrc.symm, hrs.symm]

theorem selOpc_readScratchpad_iff (hw : s.cfg.wellFormed = true) :
    selOpc s = some s.cfg.opcReadScratchpad ↔ s.seqState = .masterTxFnCommand ∧ s.convTriggered = true := by
  obtain ⟨-, hrs, hcs⟩ := Config.wellFormed_ne hw
  cases hq : s.seqState <;> cases hc : s.convTriggered <;> simp [selOpc, hq, hc, hrs, hcs]

theorem selOpc_not_reset (ho : selOpc s = some opc) : s.seqState ≠ .masterReset := by
  intro hq
  simp [selOpc, hq] at ho

end Sys2Proof.Machine
end

section
/-! SUPPORT. The twelve invariants of R44 are kept by every event of the block's own ports. -/

namespace Sys2Proof.Machine

variable {s t u : State} {i : Instr} {opc : Byte} {d : SubDone} {b : Bool}

/-- The ROM builder is at the start of a record (R31, R32, R33). -/
def RomAtStart (s : State) : Prop := s.romPhase = .family ∧ s.romBit = 0#3 ∧ s.romByte = 0#3

/-- Item 7, read backwards: outside a READ ROM reply the builder is at its start. -/
theorem Inv.rom_at_start (h : Inv s) (hn : ¬(s.seqState = .masterReadRom ∧ s.txnState = .reading)) : RomAtStart s :=
  not_not.mp (mt h.rom_in_read hn)

/-- Item 8, read backwards: outside a READ SCRATCHPAD reply no scratchpad bit is counted. -/
theorem Inv.sp_at_start (h : Inv s)
    (hn : ¬(s.seqState = .masterTxFnCommand ∧ s.convTriggered = true ∧ s.txnState = .reading)) : s.spIdx = 0#4 :=
  not_not.mp (mt h.sp_in_read hn)

/-- Item 11, read backwards: outside MASTER_RESET the presence machine waits for a low. -/
theorem Inv.pd_at_start (h : Inv s) (hn : s.seqState ≠ .masterReset) : s.pdState = .waitLow :=
  not_not.mp (mt h.pd_in_reset fun hq => hn hq.1)

/-! ## The transaction -/

/-- The ROM builder's status is PENDING, or its record is complete and it is at its start again (R184). -/
theorem romUpdate_atStart (hl : RegsLegal s) (hf : (romUpdate b s).1 ≠ .pending) : RomAtStart (romUpdate b s).2 := by
  obtain ⟨-, -, he⟩ | ⟨-, -, he⟩ | ⟨-, -, he⟩ | ⟨-, -, -, he⟩ | ⟨-, -, -, he⟩ | ⟨-, -, he⟩ | ⟨hp, -, he⟩ | ⟨-, he⟩ :=
    romUpdate_cases b s <;> rw [he] at hf ⊢
  pick_goal 7 -- the last bit of phase CRC
  · exact ⟨rfl, rfl, hl.rom_byte_zero (by simp [hp])⟩
  all_goals exact absurd rfl hf

/-- A transaction step is inside a READ ROM reply, or leaves the ROM builder at its start. -/
theorem txnStep_romAtStart (hl : RegsLegal s) (hw : s.cfg.wellFormed = true)
    (hs : opc = s.cfg.opcReadRom ∧ s.txnState = .reading ∨ RomAtStart s) (hd : txnStep opc s = .ok d) :
    opc = s.cfg.opcReadRom ∧ d.state.txnState = .reading ∨ RomAtStart d.state := by
  obtain ⟨hne, -, -⟩ := Config.wellFormed_ne hw
  obtain ⟨-, ⟨hwr, -, rfl⟩ | ⟨-, ho, rfl⟩ | ⟨hr, -, ho, -, rfl⟩ | ⟨-, -, hn, -, -, rfl⟩ | ⟨-, -, hn, -, -, rfl⟩ |
    ⟨-, -, hn, -, rfl⟩⟩ := txnStep_inv hd
  · have hrom : RomAtStart s := hs.resolve_left fun h => by simp [hwr] at h
    dsimp only
    rw [doneWrite_eq]
    split <;> exact .inr hrom
  · dsimp only
    rw [readyUpdate_frame]
    exact .inr (hs.resolve_left fun h => hne (h.1.symm.trans ho))
  · dsimp only
    split
    · exact .inl ⟨ho, by rw [romUpdate_frame]; exact hr⟩
    · next hf => exact .inr (romUpdate_atStart (legal_doneRd hl) hf)
  all_goals exact .inr (hs.resolve_left fun h => hn h.1)

/-- A transaction step is inside a READ SCRATCHPAD reply, or leaves the scratchpad index at 0. -/
theorem txnStep_spAtStart (hw : s.cfg.wellFormed = true)
    (hs : opc = s.cfg.opcReadScratchpad ∧ s.txnState = .reading ∨ s.spIdx = 0#4) (hd : txnStep opc s = .ok d) :
    opc = s.cfg.opcReadScratchpad ∧ d.state.txnState = .reading ∨ d.state.spIdx = 0#4 := by
  obtain ⟨-, hrs, hcs⟩ := Config.wellFormed_ne hw
  obtain ⟨-, ⟨hwr, -, rfl⟩ | ⟨-, ho, rfl⟩ | ⟨-, -, ho, -, rfl⟩ | ⟨hr, -, -, ho, -, rfl⟩ | ⟨-, -, -, -, -, rfl⟩ |
    ⟨-, -, -, hn, rfl⟩⟩ := txnStep_inv hd
  · have hsp : s.spIdx = 0#4 := hs.resolve_left fun h => by simp [hwr] at h
    dsimp only
    rw [doneWrite_eq]
    split <;> exact .inr hsp
  · dsimp only
    rw [readyUpdate_frame]
    exact .inr (hs.resolve_left fun h => hcs (ho.symm.trans h.1))
  · dsimp only
    rw [romUpdate_frame]
    split <;> exact .inr (hs.resolve_left fun h => hrs (ho.symm.trans h.1))
  · exact .inl ⟨ho, hr⟩
  · exact .inr rfl
  · exact .inr (hs.resolve_left fun h => hn h.1)

/-- Bit 15 of the accumulator stays 0 (item 12). -/
theorem txnStep_keeps_acc_bound (ha : s.tempAcc.toNat ≤ 0x7FFF) (hd : txnStep opc s = .ok d) :
    d.state.tempAcc.toNat ≤ 0x7FFF := by
  obtain ⟨-, ⟨-, -, rfl⟩ | ⟨-, -, rfl⟩ | ⟨-, -, -, -, rfl⟩ | ⟨-, -, -, -, hi, rfl⟩ | ⟨-, -, -, -, -, rfl⟩ |
    ⟨-, -, -, -, rfl⟩⟩ := txnStep_inv hd
  · dsimp only
    rw [doneWrite_eq]
    split <;> exact ha
  · dsimp only
    rw [readyUpdate_frame]
    exact ha
  · dsimp only
    rw [romUpdate_frame]
    split <;> exact ha
  · exact setTempBit_lt ha hi
  · exact ha
  · exact ha

/-- A transaction that finishes is back in WRITING with the mask at its first bit (R211, R213, items 4 and 10). -/
theorem txnStep_finished (hl : RegsLegal s) (hd : txnStep opc s = .ok d) (hf : d.status = .finished) :
    d.state.txnState = .writing ∧ d.state.encMask = 0x01#8 := by
  obtain ⟨-, ⟨-, -, rfl⟩ | ⟨hr, -, rfl⟩ | ⟨hr, -, -, -, rfl⟩ | ⟨-, -, -, -, -, rfl⟩ | ⟨hr, -, -, -, -, rfl⟩ |
    ⟨-, -, -, -, rfl⟩⟩ := txnStep_inv hd
  · cases hf
  · cases hb : lineLevel s <;> rw [hb] at hf
    · cases hf
    · exact ⟨rfl, hl.reading_mask hr⟩
  · have hnp : (romUpdate (lineLevel s) (doneRd s)).1 ≠ .pending := fun hp => nomatch hp.symm.trans hf
    dsimp only
    rw [if_neg hnp, romUpdate_frame]
    exact ⟨rfl, hl.reading_mask hr⟩
  · cases hf
  · exact ⟨rfl, hl.reading_mask hr⟩
  · cases hf

theorem txnStep_seqState (hd : txnStep opc s = .ok d) : d.state.seqState = s.seqState := by rw [txnStep_frame hd]

/-- Every step of the transaction the sequencer runs keeps the invariants. -/
theorem txnStep_keeps_inv (h : Inv s) (hw : s.cfg.wellFormed = true) (ho : selOpc s = some opc)
    (hd : txnStep opc s = .ok d) : Inv d.state := by
  have hq : s.seqState ≠ .masterReset := selOpc_not_reset ho
  have hseq := txnStep_seqState hd
  have hconv : d.state.convTriggered = s.convTriggered := by rw [txnStep_frame hd]
  have hissued : d.state.resetIssued = s.resetIssued := by rw [txnStep_frame hd]
  have hpd : d.state.pdState = s.pdState := by rw [txnStep_frame hd]
  have hout : d.state.tempOut = s.tempOut := by rw [txnStep_frame hd]
  have hrom := txnStep_romAtStart h.regs hw (or_iff_not_imp_right.mpr fun hn =>
    have ⟨hr, htx⟩ := h.rom_in_read hn
    ⟨Option.some.inj (ho.symm.trans ((selOpc_readRom_iff hw).mpr hr)), htx⟩) hd
  have hsp := txnStep_spAtStart hw (or_iff_not_imp_right.mpr fun hn =>
    have ⟨hr, hc, htx⟩ := h.sp_in_read hn
    ⟨Option.some.inj (ho.symm.trans ((selOpc_readScratchpad_iff hw).mpr ⟨hr, hc⟩)), htx⟩) hd
  constructor
  case regs => exact txnStep_keeps_legal h.regs hd
  case rom_in_read =>
    intro hn
    obtain ⟨rfl, hr⟩ := hrom.resolve_right hn
    exact ⟨hseq.trans ((selOpc_readRom_iff hw).mp ho), hr⟩
  case sp_in_read =>
    intro hn
    obtain ⟨rfl, hr⟩ := hsp.resolve_right hn
    rw [hseq, hconv, ← and_assoc]
    exact ⟨(selOpc_readScratchpad_iff hw).mp ho, hr⟩
  case issued => rw [hseq, hissued]; exact h.issued
  case reset_writing => exact fun hr => absurd (hseq.symm.trans hr) hq
  case pd_in_reset => rw [hseq, hissued, hpd]; exact h.pd_in_reset
  case acc_bound => exact txnStep_keeps_acc_bound h.acc_bound hd
  case out_bound => rw [hout]; exact h.out_bound

/-! ## The sequencer and the other events -/

theorem inv_respond (r : Response) (h : Inv s) : Inv (respond r s) := { h with regs := legal_respond r h.regs }

theorem inv_setTick (h : Inv s) : Inv (setTick s) := { h with regs := legal_setTick h.regs }

theorem inv_doneRd (h : Inv s) : Inv (doneRd s) := { h with regs := legal_doneRd h.regs }

theorem inv_init (s : State) : Inv (resetData (resetControl s)) where
  regs := legal_init s
  rom_in_read := fun hn => absurd ⟨rfl, rfl, rfl⟩ hn
  sp_in_read := fun hn => absurd rfl hn
  issued := by simp
  reset_writing := fun _ => ⟨rfl, rfl⟩
  pd_in_reset := fun hn => absurd rfl hn
  acc_bound := by simp
  out_bound := by simp

/-- Every STEP in MASTER_RESET keeps the invariants (R232). -/
theorem seqReset_keeps_inv (h : Inv s) (hq : s.seqState = .masterReset) (hr : seqReset s = .ok t) : Inv t := by
  have hl : RegsLegal t := seqReset_keeps_legal h.regs hr
  have hrom : RomAtStart s := h.rom_at_start (by simp [hq])
  have hsp : s.spIdx = 0#4 := h.sp_at_start (by simp [hq])
  obtain ⟨-, ⟨-, rfl⟩ | ⟨-, -, -, -, rfl⟩ | ⟨hi, -, -, -, rfl⟩ | ⟨hi, -, -, -, rfl⟩ | ⟨-, -, -, -, rfl⟩⟩ :=
    seqReset_inv hr
  · exact { h with regs := hl, issued := fun _ => rfl, pd_in_reset := fun _ => ⟨hq, rfl⟩ }
  · exact { h with
      regs := hl
      sp_in_read := fun hn => absurd hsp hn
      issued := fun hx => by simp [raiseError, recover, hq] at hx
      pd_in_reset := fun hn => absurd rfl hn }
  · exact { h with regs := hl, pd_in_reset := fun _ => ⟨hq, hi⟩ }
  · exact { h with
      regs := hl
      rom_in_read := fun hn => absurd hrom hn
      sp_in_read := fun hn => absurd hsp hn
      issued := fun _ => hi
      reset_writing := nofun
      pd_in_reset := fun hn => absurd rfl hn }
  · exact inv_respond _ (inv_doneRd h)

/-- The published temperature is at most 2047, and so is the shifted accumulator (R235, item 12). -/
theorem scaleTemp_le {v : Half} (hv : v.toNat ≤ 0x7FFF) : (scaleTemp v).toNat ≤ 2047 := by
  rw [scaleTemp_toNat hv]
  omega

/-- What the sequencer makes of a transaction step keeps the invariants: a finished transaction is in WRITING, so every
machine below the sequencer is at its start when the sequencer moves on (R233, R234, R235). -/
theorem seqMove_keeps_inv (h : Inv d.state) (hq : d.state.seqState = s.seqState) (hne : s.seqState ≠ .masterReset)
    (hdone : d.status = .finished → d.state.txnState = .writing ∧ d.state.encMask = 0x01#8) (hm : SeqMove s d u) :
    Inv u := by
  have hl : RegsLegal u := seqMove_keeps_legal h.regs hm
  have hpd : d.state.pdState = .waitLow := h.pd_at_start (hq ▸ hne)
  have hrom : d.status = .finished → RomAtStart d.state := fun hf => h.rom_at_start (by simp [hdone hf])
  have hsp : d.status = .finished → d.state.spIdx = 0#4 := fun hf => h.sp_at_start (by simp [hdone hf])
  cases hm with
  | stay => exact h
  | romRead hf hr => exact { h with
      regs := hl
      rom_in_read := fun hn => absurd (hrom hf) hn
      sp_in_read := fun hn => absurd (hsp hf) hn
      issued := fun _ => h.issued (.inl (hq.trans hr))
      reset_writing := nofun
      pd_in_reset := fun hn => absurd hpd hn }
  | triggered hf hr hc => exact { h with
      regs := hl
      rom_in_read := fun hn => absurd (hrom hf) hn
      sp_in_read := fun hn => absurd (hsp hf) hn
      issued := by simp
      reset_writing := fun _ => hdone hf
      pd_in_reset := fun hn => absurd hpd hn }
  | published hf hr hc => exact { h with
      regs := hl
      rom_in_read := fun hn => absurd (hrom hf) hn
      sp_in_read := fun hn => absurd (hsp hf) hn
      issued := by simp
      reset_writing := fun _ => hdone hf
      pd_in_reset := fun hn => absurd hpd hn
      acc_bound := (scaleTemp_le h.acc_bound).trans (by decide)
      out_bound := scaleTemp_le h.acc_bound }

theorem exec_keeps_inv (h : Inv s) (hw : s.cfg.wellFormed = true) (hi : i ∈ portInstrs) (he : exec i s = .next t) :
    Inv t := by
  cases exec_effect he with
  | init => exact inv_respond _ (inv_init s)
  | tick => exact inv_setTick h
  | answer i r => exact inv_respond r h
  | recovered hq => exact absurd hq h.regs.seq_legal
  | reset hq hr => exact seqReset_keeps_inv h hq hr
  | sequenced r ho hd hm =>
    have hd' := txnStep_keeps_inv h hw ho hd
    have hdone := txnStep_finished h.regs hd
    exact inv_respond r (seqMove_keeps_inv hd' (txnStep_seqState hd) (selOpc_not_reset ho) hdone hm)
  | coded r ho hd => simp [lineCode_port hi] at ho
  | w0 | w1 | rd | rst => simp [portInstrs] at hi

/-! ## The step and the run -/

/-- The invariants speak of the registers, and not of the script or the order counter. -/
theorem inv_taken (h : Inv s) (hu : u = { s with pending := u.pending, orderDraws := u.orderDraws }) : Inv u := by
  rw [hu]
  exact { h with regs := { h.regs with } }

/-- Of the script the launch premises ask only that it is made of port arrivals. -/
theorem launched_taken (h : Launched s) (hu : u = { s with pending := u.pending, orderDraws := u.orderDraws })
    (hp : u.pending.all atPorts = true) : Launched u := by
  rw [hu]
  exact { h with script_ok := hp }

theorem exec_keeps_launched (h : Launched s) (he : exec i s = .next t) : Launched t :=
  have k := exec_keeps_launch he
  { cfg_ok := k.cfg ▸ h.cfg_ok
    initialised := k.initialised h.initialised
    not_refused := k.refused.trans h.not_refused
    not_faulted := k.faulted.trans h.not_faulted
    script_ok := k.pending ▸ h.script_ok }

/-- Settles O42: the input taken leaves both in force, and so does the event it gives, which is one of the ports'. -/
theorem stepKeepsInvariants : Obligations.StepKeepsInvariants := by
  intro s t h hl hs
  obtain ⟨-, -, -, hq | ⟨i, u, hu, he⟩⟩ := step_inv hs
  · have ht := takeInput_quiet hq
    exact ⟨inv_taken h ht, launched_taken hl ht (takeInput_quiet_port hl.script_ok hq)⟩
  · obtain ⟨hi, hp⟩ := takeInput_run_port hl.script_ok hu
    have hut := takeInput_run hu
    have hlu : Launched u := launched_taken hl hut hp
    exact ⟨exec_keeps_inv (inv_taken h hut) hlu.cfg_ok hi he, exec_keeps_launched hlu he⟩

/-- Settles O11: the launch state is what INIT makes of it. -/
theorem resetMeetsInvariants : Obligations.ResetMeetsInvariants :=
  ⟨inv_init State.reset, ⟨by decide, rfl, rfl, rfl, rfl⟩⟩

/-- Settles O10, register by register. -/
theorem resetRegisterValues : Obligations.ResetRegisterValues := by
  refine ⟨rfl, rfl, rfl, rfl, rfl, rfl, rfl, rfl, rfl, rfl, fun k hk => ?_, rfl, rfl, rfl, rfl, rfl, rfl, rfl, rfl, rfl,
    rfl, rfl, rfl, rfl, by decide⟩
  exact Vector.getElem_replicate hk

/-- A property that every step keeps holds at the end of every run that completes. -/
theorem run_keeps {M : Host.Core} {P : M.State → Prop} (hstep : ∀ s t, P s → M.step s = .next t → P t) (n : Nat) :
    ∀ s t, P s → M.run n s = .next t → P t := by
  induction n with
  | zero =>
    intro s t h hr
    cases hr
    exact h
  | succ n ih =>
    intro s t h hr
    simp only [Host.Core.run] at hr
    cases hs : M.step s with
    | next u =>
      rw [hs] at hr
      exact ih u t (hstep s u h hs) hr
    | fault f => simp [hs] at hr
    | refused r => simp [hs] at hr

theorem script_atPorts (script : List Line) : (script.map lineInput).all atPorts = true := by
  simp only [List.all_map, List.all_eq_true]
  intro l _
  cases l <;> rfl

/-- Any codes that meet R101, any script and any stream launch a machine that meets the invariants. -/
theorem launch_inv_launched {c : Config} (hc : c.wellFormed = true) (script : List Line) (stream : List Bool) :
    Inv { launch script stream with cfg := c } ∧ Launched { launch script stream with cfg := c } :=
  have ⟨h, hl⟩ := resetMeetsInvariants
  ⟨{ h with regs := { h.regs with } }, { hl with cfg_ok := hc, script_ok := script_atPorts script }⟩

/-- Settles O43, by induction on the number of steps. -/
theorem reachableStatesMeetInvariants : Obligations.ReachableStatesMeetInvariants := by
  intro n c script stream t hc hr
  have hstep : ∀ s t : State, (Inv s ∧ Launched s) → step s = .next t → Inv t ∧ Launched t :=
    fun s t h => stepKeepsInvariants s t h.1 h.2
  exact run_keeps (M := Sys2Proof.core) (P := fun s : State => Inv s ∧ Launched s) hstep n _ t
    (launch_inv_launched hc script stream) hr

end Sys2Proof.Machine
end

section
/-! SUPPORT. Which event writes the ROM record, `family_out` and `temp_out` (R34, R36, R71). -/

namespace Sys2Proof.Machine

variable {s t u : State} {i : Instr} {opc : Byte} {d : SubDone}

/-- From `s` to `t` the ROM record and the published family code are the same. -/
structure RomKept (s t : State) : Prop where
  family : t.romFamily = s.romFamily
  serial : t.romSerial = s.romSerial
  crc    : t.romCrc = s.romCrc
  out    : t.familyOut = s.familyOut

/-- One event reads a bit of a READ ROM reply, and publishes the family code if that bit is the last of the record. -/
structure RomBitRead (s t : State) : Prop where
  tick    : s.tickFlag = true
  reading : s.txnState = .reading
  out     : t.familyOut = s.familyOut ∨ s.romPhase = .crc ∧ s.romBit = lastBit ∧ t.familyOut = s.romFamily

theorem romUpdate_familyOut (b : Bool) (s : State) : (romUpdate b s).2.familyOut = s.familyOut ∨
    s.romPhase = .crc ∧ s.romBit = lastBit ∧ (romUpdate b s).2.familyOut = s.romFamily := by
  obtain ⟨-, -, he⟩ | ⟨-, -, he⟩ | ⟨-, -, he⟩ | ⟨-, -, -, he⟩ | ⟨-, -, -, he⟩ | ⟨-, -, he⟩ | ⟨hp, hb, he⟩ | ⟨-, he⟩ :=
    romUpdate_cases b s <;> rw [he]
  pick_goal 7 -- the last bit of phase CRC
  · exact .inr ⟨hp, hb, rfl⟩
  all_goals exact .inl rfl

theorem txnStep_rom_writer (hd : txnStep opc s = .ok d) :
    RomKept s d.state ∨ opc = s.cfg.opcReadRom ∧ RomBitRead s d.state := by
  obtain ⟨ht, ⟨-, -, rfl⟩ | ⟨-, -, rfl⟩ | ⟨hr, -, ho, -, rfl⟩ | ⟨-, -, -, -, -, rfl⟩ | ⟨-, -, -, -, -, rfl⟩ |
    ⟨-, -, -, -, rfl⟩⟩ := txnStep_inv hd
  · dsimp only
    rw [doneWrite_eq]
    split <;> exact .inl ⟨rfl, rfl, rfl, rfl⟩
  · dsimp only
    rw [readyUpdate_frame]
    exact .inl ⟨rfl, rfl, rfl, rfl⟩
  · have hout := romUpdate_familyOut (lineLevel s) (doneRd s)
    dsimp only
    split <;> exact .inr ⟨ho, ht, hr, hout⟩
  all_goals exact .inl ⟨rfl, rfl, rfl, rfl⟩

theorem seqReset_keeps_published (hr : seqReset s = .ok t) : RomKept s t ∧ t.tempOut = s.tempOut := by
  obtain ⟨-, ⟨-, rfl⟩ | ⟨-, -, -, -, rfl⟩ | ⟨-, -, -, -, rfl⟩ | ⟨-, -, -, -, rfl⟩ | ⟨-, -, -, -, rfl⟩⟩ := seqReset_inv hr
  all_goals exact ⟨⟨rfl, rfl, rfl, rfl⟩, rfl⟩

theorem seqMove_rom_writer (h : RomKept s d.state ∨ opc = s.cfg.opcReadRom ∧ RomBitRead s d.state) (hm : SeqMove s d u) :
    RomKept s u ∨ opc = s.cfg.opcReadRom ∧ RomBitRead s u := by
  cases hm <;> exact h.imp (fun k => { k with }) (And.imp_right fun r => { r with })

/-- Every event but INIT keeps the record, or runs a READ ROM transaction, as a STEP or as the code itself, and reads a bit of
its reply. -/
theorem exec_rom_writer (hw : s.cfg.wellFormed = true) (hi : i ≠ .init) (he : exec i s = .next t) :
    RomKept s t ∨
      (i = .step ∧ s.seqState = .masterReadRom ∨ lineCode s.cfg i = some s.cfg.opcReadRom) ∧ RomBitRead s t := by
  cases exec_effect he with
  | init => exact absurd rfl hi
  | reset hq hr => exact .inl (seqReset_keeps_published hr).1
  | sequenced r ho hd hm =>
    obtain k | ⟨rfl, k⟩ := seqMove_rom_writer (txnStep_rom_writer hd) hm
    · exact .inl { k with }
    · exact .inr ⟨.inl ⟨rfl, (selOpc_readRom_iff hw).mp ho⟩, { k with }⟩
  | coded r ho hd =>
    obtain k | ⟨rfl, k⟩ := txnStep_rom_writer hd
    · exact .inl { k with }
    · exact .inr ⟨.inr ho, { k with }⟩
  | tick | answer | w0 | w1 | rd | rst | recovered => exact .inl ⟨rfl, rfl, rfl, rfl⟩

/-- Settles O48: an event that keeps the record changes none of its fields, and INIT aside any other reads a reply bit. -/
theorem romRecordWriters : Obligations.RomRecordWriters := by
  intro i s t hw he hc
  refine or_iff_not_imp_left.mpr fun hi => ?_
  obtain k | ⟨hwho, k⟩ := exec_rom_writer hw hi he
  · simp [k.family, k.serial, k.crc] at hc
  · exact ⟨hwho, k.tick, k.reading⟩

theorem txnStep_tempOut (hd : txnStep opc s = .ok d) : d.state.tempOut = s.tempOut := by rw [txnStep_frame hd]

/-- A READ SCRATCHPAD transaction finishes in the step after its 15th bit, which leaves the accumulator (R187). -/
theorem txnStep_readScratchpad_finished (hw : s.cfg.wellFormed = true) (hd : txnStep s.cfg.opcReadScratchpad s = .ok d)
    (hf : d.status = .finished) :
    s.tickFlag = true ∧ s.txnState = .reading ∧ s.spIdx = spBits ∧ d.state.tempAcc = s.tempAcc := by
  obtain ⟨ht, ⟨-, -, rfl⟩ | ⟨-, -, rfl⟩ | ⟨hr, hi, rfl⟩⟩ := txnStep_readScratchpad_inv hw hd
  · cases hf
  · cases hf
  · exact ⟨ht, hr, hi, rfl⟩

/-- The event completes a read-back and publishes its temperature. -/
structure ReadBackDone (s t : State) : Prop where
  tick      : s.tickFlag = true
  seq       : s.seqState = .masterTxFnCommand
  triggered : s.convTriggered = true
  reading   : s.txnState = .reading
  bits      : s.spIdx = spBits
  out       : t.tempOut = scaleTemp s.tempAcc

theorem seqMove_tempOut (hw : s.cfg.wellFormed = true) (ho : selOpc s = some opc) (hd : txnStep opc s = .ok d)
    (hm : SeqMove s d u) : u.tempOut = s.tempOut ∨ ReadBackDone s u := by
  cases hm with
  | published hf hq hc =>
    cases ho.symm.trans ((selOpc_readScratchpad_iff hw).mpr ⟨hq, hc⟩)
    obtain ⟨ht, hr, hi, hacc⟩ := txnStep_readScratchpad_finished hw hd hf
    exact .inr ⟨ht, hq, hc, hr, hi, congrArg scaleTemp hacc⟩
  | stay | romRead | triggered => exact .inl (txnStep_tempOut hd)

theorem exec_tempOut (hw : s.cfg.wellFormed = true) (hi : i ≠ .init) (he : exec i s = .next t) :
    t.tempOut = s.tempOut ∨ i = .step ∧ ReadBackDone s t := by
  cases exec_effect he with
  | init => exact absurd rfl hi
  | reset hq hr => exact .inl (seqReset_keeps_published hr).2
  | sequenced r ho hd hm => exact (seqMove_tempOut hw ho hd hm).imp id fun k => ⟨rfl, { k with }⟩
  | coded r ho hd => exact .inl (txnStep_tempOut hd)
  | tick | answer | w0 | w1 | rd | rst | recovered => exact .inl rfl

/-- Settles O47: `temp_out` by `exec_tempOut`, `family_out` by `exec_rom_writer`. -/
theorem publishedValuesChangeOnCompletion : Obligations.PublishedValuesChangeOnCompletion := by
  intro i s t hw he
  constructor <;> refine fun hc => or_iff_not_imp_left.mpr fun hi => ?_
  · obtain ⟨hstep, k⟩ := (exec_tempOut hw hi he).resolve_left hc
    exact ⟨hstep, k.tick, k.seq, k.triggered, k.reading, k.bits, k.out⟩
  · obtain k | ⟨hwho, k⟩ := exec_rom_writer hw hi he
    · exact absurd k.out hc
    · exact ⟨hwho, k.tick, k.reading, k.out.resolve_left hc⟩

end Sys2Proof.Machine
end

section
/-! SUPPORT. The bus trace grows by one entry in an event that performs a slot, and is left as it is by every other (R67,
R123). -/

namespace Sys2Proof.Machine

variable {s t u : State} {i : Instr} {c : Config} {opc : Byte} {d : SubDone}

/-- From `s` to `t` one slot is performed: it consumes the pending tick and appends one entry to the bus trace. -/
structure SlotPerformed (s t : State) : Prop where
  tick     : s.tickFlag = true
  consumed : t.tickFlag = false
  trace    : ∃ ev, t.busTrace = s.busTrace ++ [ev]

/-- The events that perform no slot: INIT, TICK and the host reads (R120, R240, R241, R290). -/
def slotlessInstrs : List Instr := [.init, .tick, .getTemp, .getFamily]

theorem slotless_subset_port : slotlessInstrs ⊆ portInstrs := by decide

theorem lineCode_not_slotless (ho : lineCode c i = some opc) : i ∉ slotlessInstrs := by
  intro hi
  cases ho.symm.trans (lineCode_port (slotless_subset_port hi))

theorem txnStep_slotPerformed (hd : txnStep opc s = .ok d) : SlotPerformed s d.state :=
  have ⟨ht, hc, htr, _⟩ := txnStep_event hd
  ⟨ht, hc, htr⟩

theorem seqReset_slotPerformed (hr : seqReset s = .ok t) : SlotPerformed s t := by
  obtain ⟨ht, ⟨-, rfl⟩ | ⟨-, -, -, -, rfl⟩ | ⟨-, -, -, -, rfl⟩ | ⟨-, -, -, -, rfl⟩ | ⟨-, -, -, -, rfl⟩⟩ := seqReset_inv hr
  all_goals exact ⟨ht, rfl, _, rfl⟩

theorem seqMove_slotPerformed (h : SlotPerformed s d.state) (hm : SeqMove s d u) : SlotPerformed s u := by
  cases hm <;> exact { h with }

/-- Every event that completes leaves the bus trace, or is none of the slotless events and performs one slot. -/
theorem exec_busTrace (he : exec i s = .next t) :
    t.busTrace = s.busTrace ∨ i ∉ slotlessInstrs ∧ SlotPerformed s t := by
  cases exec_effect he with
  | init | tick | answer | recovered => exact .inl rfl
  | w0 ht | w1 ht | rd ht | rst ht => exact .inr ⟨by decide, ht, rfl, _, rfl⟩
  | reset hq hr => exact .inr ⟨by decide, seqReset_slotPerformed hr⟩
  | sequenced r ho hd hm =>
    have k := seqMove_slotPerformed (txnStep_slotPerformed hd) hm
    exact .inr ⟨by decide, { k with }⟩
  | coded r ho hd => exact .inr ⟨lineCode_not_slotless ho, { txnStep_slotPerformed hd with }⟩

/-- Settles O46: both clauses are read off `exec_busTrace`. -/
theorem traceGrowsBySlotsOnly : Obligations.TraceGrowsBySlotsOnly := by
  intro i s t he
  obtain hkept | ⟨hi, k⟩ := exec_busTrace he
  · exact ⟨.inl hkept, fun _ => hkept⟩
  · exact ⟨.inr ⟨k.trace, k.tick, k.consumed⟩, fun hmem => absurd hmem hi⟩

end Sys2Proof.Machine
end

section
/-! SUPPORT. A step on a TICK and a host command that arrive together: one of them is an event to process now, the other is
left as the next input (R77, R266). -/

namespace Sys2Proof.Machine

variable {s : State} {cmd : BitVec 2} {rest : List Input}

theorem takeInput_both (hp : s.pending = .ports true (some cmd) :: rest) : takeInput s = takeBoth cmd rest s := by
  rw [takeInput, hp]

/-- Taken before the command, the TICK is the event, and the command the next input. -/
theorem takeBoth_tickFirst (hb : Config.tickFirst s.orderDraws = true) : takeBoth cmd rest s =
    .run .tick { s with pending := .ports false (some cmd) :: rest, orderDraws := s.orderDraws + 1 } := by
  rw [takeBoth, if_pos hb]
  exact takeWord_of_decode rfl

/-- Taken before the TICK, the command is the event, and the TICK the next input. -/
theorem takeBoth_commandFirst (hb : ¬Config.tickFirst s.orderDraws = true) : takeBoth cmd rest s =
    .run (decodeHost cmd) { s with pending := .ports true none :: rest, orderDraws := s.orderDraws + 1 } := by
  rw [takeBoth, if_neg hb]
  exact takeWord_of_decode rfl

/-- Settles O8, by the two values of the free order. -/
theorem simultaneousArrivals : Obligations.SimultaneousArrivals := by
  intro s cmd rest hw hr hf hp
  rw [step_launched hw hr hf, takeInput_both hp]
  by_cases hb : Config.tickFirst s.orderDraws = true
  · rw [takeBoth_tickFirst hb, if_pos hb]
  · rw [takeBoth_commandFirst hb, if_neg hb]

end Sys2Proof.Machine
end

section
/-! SUPPORT. The decoder of OW_CMD8 as a search through the table of R99: it reads the first of the nine rows whose code is
the byte. The encoder writes the code of the row that the search finds, so the two agree. -/

namespace Sys2Proof

variable {c : Config} {i : Instr} {opc : Byte}

/-- The nine rows of OW_CMD8 in the order of R99's table. -/
def lineRows : List Instr :=
  [.readRom, .matchRom, .skipRom, .alarmSearch, .convertT, .writeScratchpad, .readScratchpad, .copyScratchpad,
   .readPowerSupply]

/-- `codes` lists the codes of the rows, in the rows' order. -/
theorem codes_eq_filterMap (c : Config) : c.codes = lineRows.filterMap (lineCode c) := rfl

/-- The rows that have a code are those of OW_CMD8. -/
theorem mem_lineRows (h : lineCode c i = some opc) : i ∈ lineRows := by
  cases i <;> simp [lineCode, lineRows] at h ⊢

theorem encode_of_lineCode (h : lineCode c i = some opc) : encode c i = .owCmd8 opc := by
  cases i <;> cases h <;> rfl

theorem wellFormed_of_lineCode (h : lineCode c i = some opc) : i.wellFormed c = c.unique opc := by
  cases i <;> cases h <;> rfl

/-- `decodeOw` is a search for the first row whose code is the byte. -/
theorem decodeOw_eq_find (c : Config) (opc : Byte) :
    decodeOw c opc = (lineRows.find? (some opc = lineCode c ·)).elim (.error (.unknownCode opc)) .ok := by
  unfold decodeOw
  split_ifs <;> simp_all [lineRows, lineCode]

/-- A byte is read as the row `i` if `i` has that code and no row before `i` has it. -/
theorem decodeOw_of_first {before after : List Instr} (hrows : lineRows = before ++ i :: after)
    (hi : lineCode c i = some opc) (hb : ∀ j ∈ before, lineCode c j ≠ some opc) : decodeOw c opc = .ok i := by
  have hfind : lineRows.find? (some opc = lineCode c ·) = some i :=
    List.find?_eq_some_iff_append.mpr ⟨by simp [hi], before, after, hrows, fun j hj => by simpa using (hb j hj).symm⟩
  rw [decodeOw_eq_find, hfind]; rfl

/-- A byte read as an instruction is that instruction's code. -/
theorem lineCode_of_decodeOw (h : decodeOw c opc = .ok i) : lineCode c i = some opc := by
  rw [decodeOw_eq_find] at h
  cases hf : lineRows.find? (some opc = lineCode c ·) with
  | none => rw [hf] at h; cases h
  | some j =>
    rw [hf] at h; cases h
    have hi : some opc = lineCode c i := by simpa using List.find?_some hf
    exact hi.symm

/-- A byte outside the nine codes is rejected by name (R161). -/
theorem decodeOw_of_not_mem (h : opc ∉ c.codes) : decodeOw c opc = .error (.unknownCode opc) := by
  have hnone : lineRows.find? (some opc = lineCode c ·) = none :=
    List.find?_eq_none.mpr fun j hj heq =>
      h (codes_eq_filterMap c ▸ List.mem_filterMap.mpr ⟨j, hj, (of_decide_eq_true heq).symm⟩)
  rw [decodeOw_eq_find, hnone]; rfl

/-- A code that stands once among the nine is read as its own row: no earlier row has it. -/
theorem decodeOw_of_unique (hi : lineCode c i = some opc) (hu : c.unique opc = true) : decodeOw c opc = .ok i := by
  obtain ⟨before, after, hrows⟩ := List.append_of_mem (mem_lineRows hi)
  have hcodes : c.codes = before.filterMap (lineCode c) ++ opc :: after.filterMap (lineCode c) := by
    rw [codes_eq_filterMap, hrows, List.filterMap_append, List.filterMap_cons_some hi]
  have hbefore := Config.unique_before hcodes hu
  exact decodeOw_of_first hrows hi fun j hj heq => hbefore (List.mem_filterMap.mpr ⟨j, hj, heq⟩)

/-- The words of the other nine rows have fixed values (R90, R92, R93). -/
theorem decode_encode_of_no_lineCode (h : lineCode c i = none) : decode c (encode c i) = .ok i := by
  cases i <;> simp only [lineCode, reduceCtorEq] at h <;> rfl

/-- Settles O4: a row of OW_CMD8 by the uniqueness of its code, any other by its fixed word. -/
theorem encodedInstructionDecodes : Obligations.EncodedInstructionDecodes := by
  intro c i hwf
  cases hi : lineCode c i with
  | none => exact decode_encode_of_no_lineCode hi
  | some opc =>
    rw [encode_of_lineCode hi]
    exact decodeOw_of_unique hi ((wellFormed_of_lineCode hi).symm.trans hwf)

theorem encode_of_decodeTick {strobe : BitVec 1} (h : decodeTick strobe = .ok i) : encode c i = .tick1 strobe := by
  unfold decodeTick at h
  split at h
  · next hs => cases h; rw [hs]; rfl
  · cases h

theorem encode_of_decodeSlot {code : BitVec 3} (h : decodeSlot code = .ok i) : encode c i = .slotOp3 code := by
  unfold decodeSlot at h
  split_ifs at h with h0 h1 h2 h3 h4 <;> cases h
  · rw [h1]; rfl
  · rw [h2]; rfl
  · rw [h3]; rfl
  · rw [h4]; rfl

/-- Settles O5, format by format. -/
theorem decodedWordEncodesBack : Obligations.DecodedWordEncodesBack := by
  intro c w i h
  cases w with
  | hostCmd2 cmd => cases h; exact encode_decodeHost c cmd
  | tick1 strobe => exact encode_of_decodeTick h
  | slotOp3 code => exact encode_of_decodeSlot h
  | owCmd8 opc => exact encode_of_lineCode (lineCode_of_decodeOw h)

/-- Settles O2: each clause is one value of the decoder's tables. -/
theorem tickAndSlotWords : Obligations.TickAndSlotWords :=
  fun _ => ⟨rfl, rfl, rfl, rfl, rfl, rfl, rfl, rfl, rfl, rfl⟩

/-- Settles O3: the default codes are distinct, so each of the nine words decodes to its row, and `codes` lists them. -/
theorem lineCodeWords : Obligations.LineCodeWords := by
  have hrow (i : Instr) := encodedInstructionDecodes Config.standard i
  exact ⟨hrow .readRom (by decide), hrow .matchRom (by decide), hrow .skipRom (by decide),
    hrow .alarmSearch (by decide), hrow .convertT (by decide), hrow .writeScratchpad (by decide),
    hrow .readScratchpad (by decide), hrow .copyScratchpad (by decide), hrow .readPowerSupply (by decide),
    fun _ hout => decodeOw_of_not_mem hout⟩

end Sys2Proof
end

section
/-! SUPPORT. A step on a word that names no instruction, and what an arrival at the host port gives. -/

namespace Sys2Proof.Machine

variable {s : State} {w : CodeWord} {e : DecodeError} {r : Refusal} {rest : List Input}

theorem takeWord_of_error (h : decode s.cfg w = .error e) : takeWord w s = rejected e s := by
  rw [takeWord, h]

/-- Settles O1: the four words and the host decoder's totality are its table; an arrival is taken as the word it delivers,
which without a command is a strobe at 0. -/
theorem hostCommandWords : Obligations.HostCommandWords := by
  refine ⟨fun c => ⟨rfl, rfl, rfl, rfl, fun cmd => ⟨decodeHost cmd, rfl⟩⟩, fun s cmd rest hp => ?_, fun s rest hp => ?_⟩
  · exact (takeInput_inputOf (w := .hostCmd2 cmd) hp).trans (takeWord_of_decode rfl)
  · exact (takeInput_inputOf (w := .tick1 0#1) hp).trans (takeWord_of_error (e := .noPulse) rfl)

/-- A launched step whose next input is a word rejected with a refusal is refused for that reason. -/
theorem step_refused (hw : s.cfg.wellFormed = true) (hr : s.refused = false) (hf : s.faulted = false)
    (hp : s.pending = inputOf w :: rest) (hd : decode s.cfg w = .error e)
    (he : rejected e { s with pending := rest } = .refuse r) : step s = .refused r := by
  have hrefuse : takeInput s = .refuse r := by
    rw [takeInput_inputOf hp, takeWord_of_error (s := { s with pending := rest }) hd, he]
  rw [step_launched hw hr hf, hrefuse]

/-- Settles O7: a slot code by the four values that name no primitive, a byte by its absence from the nine codes. -/
theorem rejectedWordsRefused : Obligations.RejectedWordsRefused := by
  intro s rest hw hr hf
  constructor
  · intro code hcode hp
    obtain ⟨e, hd, he⟩ : ∃ e, decode s.cfg (.slotOp3 code) = .error e ∧
        rejected e { s with pending := rest } = .refuse (.noSuchSlot code) := by
      simp only [List.mem_cons, List.not_mem_nil, or_false] at hcode
      obtain rfl | rfl | rfl | rfl := hcode <;> exact ⟨_, rfl, rfl⟩
    exact step_refused (w := .slotOp3 code) hw hr hf hp hd he
  · intro opc hout hp
    exact step_refused (w := .owCmd8 opc) hw hr hf hp (decodeOw_of_not_mem hout) rfl

end Sys2Proof.Machine
end

section
/-! SUPPORT. TICK as one update, and TICKs in a row (R120, R121). -/

namespace Sys2Proof.Machine

variable {s : State}

theorem execTick_initialised (hi : s.initialised = true) : exec .tick s = .next (setTick s) :=
  whenInitialised_on hi

/-- A TICK merges with a tick already pending (R121). -/
theorem setTick_of_tick (ht : s.tickFlag = true) : setTick s = s := by
  rw [setTick, ← ht]

/-- Settles O16. -/
theorem tickSetsFlag : Obligations.TickSetsFlag := fun _ => execTick_initialised

/-- With a tick pending, TICKs in a row change nothing. -/
theorem ticks_of_tick (hi : s.initialised = true) (ht : s.tickFlag = true) (n : Nat) :
    (List.replicate n Instr.tick).foldl (fun o i => andThen o (exec i)) (.next s) = .next s := by
  induction n with
  | zero => rfl
  | succ n ih =>
    rw [List.replicate_succ, List.foldl_cons, andThen, execTick_initialised hi, setTick_of_tick ht]
    exact ih

/-- Settles O17: the first TICK leaves a tick pending, with which the others merge. -/
theorem ticksMerge : Obligations.TicksMerge := by
  intro n s hi
  rw [List.replicate_succ, List.foldl_cons, andThen, execTick_initialised hi]
  exact ticks_of_tick (s := setTick s) hi rfl n

end Sys2Proof.Machine
end

section
/-! SUPPORT. The four primitives as events of their own: each completes with its slot where a tick is pending, and faults
where none is (R123, R125 to R128). -/

namespace Sys2Proof.Machine

variable {s t : State} {d : SlotDone} {prim : State → Except Fault SlotDone} {f : Fault}

theorem execW0_tick (hi : s.initialised = true) (ht : s.tickFlag = true) : exec .w0 s = .next (doneW0 s) :=
  runSlot_ok hi (slotW0_tick ht)

theorem execW1_tick (hi : s.initialised = true) (ht : s.tickFlag = true) : exec .w1 s = .next (doneW1 s) :=
  runSlot_ok hi (slotW1_tick ht)

theorem execRd_tick (hi : s.initialised = true) (ht : s.tickFlag = true) : exec .rd s = .next (doneRd s) :=
  runSlot_ok hi (slotRd_tick ht)

theorem execRst_tick (hi : s.initialised = true) (ht : s.tickFlag = true) : exec .rst s = .next (doneRst s) :=
  runSlot_ok hi (slotRst_tick ht)

/-- Settles O19. -/
theorem writeSlotEffects : Obligations.WriteSlotEffects := by
  intro s hi ht
  rw [execW0_tick hi ht, execW1_tick hi ht, doneW0_eq, doneW1_eq]
  exact ⟨rfl, rfl⟩

/-- Taking a listed sample leaves the rest of the list, and draws no free value (R66). -/
theorem nextSample_cons {b : Bool} {bs : List Bool} (h : s.samples = b :: bs) :
    nextSample s = { s with samples := bs } := by
  simp [nextSample, h]

/-- Past the listed samples a free value is drawn (log entry 3). -/
theorem nextSample_nil (h : s.samples = []) : nextSample s = { s with lineDraws := s.lineDraws + 1 } := by
  simp [nextSample, h]

/-- Settles O20, by whether a sample is listed. -/
theorem readSlotEffect : Obligations.ReadSlotEffect := by
  intro s hi ht
  rw [execRd_tick hi ht, doneRd_eq]
  constructor
  · intro b bs h
    rw [nextSample_cons h, lineLevel_cons h]
  · intro h
    rw [nextSample_nil h, lineLevel_nil h]

/-- Settles O21. -/
theorem resetPulseEffect : Obligations.ResetPulseEffect := by
  intro s hi ht
  rw [execRst_tick hi ht, doneRst_eq]

theorem runSlot_error (hi : s.initialised = true) (hp : prim s = .error f) : runSlot prim s = .fault f := by
  simp [runSlot, whenInitialised, hi, hp]

/-- Settles O22: each of the four asks for a tick before its slot. -/
theorem primitiveWithoutTickFaults : Obligations.PrimitiveWithoutTickFaults := by
  intro s hi ht i hm
  simp only [List.mem_cons, List.not_mem_nil, or_false] at hm
  obtain rfl | rfl | rfl | rfl := hm
  all_goals exact runSlot_error hi (withTick_off ht)

/-- A primitive that completes had a tick pending, and leaves the state of its slot. -/
theorem runSlot_withTick_inv (h : runSlot prim s = .next t) (hp : prim s = withTick s d) :
    s.tickFlag = true ∧ t = d.state := by
  obtain ⟨-, e, he, rfl⟩ := runSlot_inv h
  obtain ⟨ht, rfl⟩ := withTick_ok (hp.symm.trans he)
  exact ⟨ht, rfl⟩

/-- Settles O23: the state each primitive's slot leaves is one update of the registers the contract names. -/
theorem slotCommonContract : Obligations.SlotCommonContract := by
  intro i hm s t h
  simp only [List.mem_cons, List.not_mem_nil, or_false] at hm
  obtain rfl | rfl | rfl | rfl := hm <;> obtain ⟨ht, rfl⟩ := runSlot_withTick_inv h rfl <;>
    refine ⟨ht, ⟨_, rfl⟩, rfl, fun hn => ?_⟩
  pick_goal 3 -- RD, the one that samples
  · exact absurd rfl hn
  all_goals exact ⟨rfl, rfl⟩

end Sys2Proof.Machine
end

section
/-! SUPPORT. One presence sample: what a STEP in MASTER_RESET answers to it, and what a high line means before any low (R129,
R130, R232, R261). -/

namespace Sys2Proof.Machine

variable {s : State}

/-- What the sequencer makes of one presence sample `b`, from the presence machine's status and state (R232, R261). -/
def presenceAnswer (b : Bool) : Status × State → State
  | (.finished, u) => respondOk .pending .rd b 0#16 { u with seqState := .masterReadRom }
  | (.error, u)    => raiseError .presenceTimeout .rd b u
  | (.pending, u)  => respondOk .pending .rd b 0#16 u

/-- A STEP after the reset pulse takes one presence sample (R232). -/
theorem seqReset_sample (ht : s.tickFlag = true) (hr : s.resetIssued = true) (hf : presenceFault s = none) :
    seqReset s = .ok (presenceAnswer (lineLevel s) (presenceUpdate (lineLevel s) (doneRd s))) := by
  rw [seqReset, if_pos hr, presenceStep_tick ht hf]
  obtain ⟨st, u⟩ := presenceUpdate (lineLevel s) (doneRd s)
  cases st <;> rfl

/-- Settles O27, by the four cases of the presence machine's update. -/
theorem presenceSampleOutcome : Obligations.PresenceSampleOutcome := by
  intro s hi ht hq hr hs hc
  dsimp only
  rw [execStep_reset hi ht hq, seqReset_sample ht hr (presenceFault_none hs hc)]
  obtain ⟨hb, h5, hu⟩ | ⟨hb, h5, hu⟩ | ⟨hb, hp, hu⟩ | ⟨hb, hp, hu⟩ := presenceUpdate_cases (lineLevel s) (doneRd s)
  · rw [hu, doneRd_eq, if_pos hb, if_pos (c := s.pdCount = 5#3) h5, hb]; rfl
  · rw [hu, doneRd_eq, if_pos hb, if_neg (c := s.pdCount = 5#3) h5, hb]; rfl
  · rw [hu, doneRd_eq, if_neg (by simp [hb]), if_pos (c := s.pdState = .countLow) hp, hb]; rfl
  · rw [hu, doneRd_eq, if_neg (by simp [hb]), if_neg (c := s.pdState = .countLow) hp, hb]; rfl

/-- A high sample before any low leaves the presence machine as it is (R130). -/
theorem presenceStep_high {bs : List Bool} (h : s.samples = true :: bs) (hp : s.pdState = .waitLow)
    (hc : s.pdCount = 0#3) :
    presenceStep (setTick s) = .ok ⟨doneRd (setTick s), .pending, .rd, true⟩ := by
  have hf : presenceFault (setTick s) = none := presenceFault_none (.inl hp) (hc.trans_le zero_le_five)
  have hu : presenceUpdate true (doneRd (setTick s)) = (.pending, doneRd (setTick s)) := by simp [presenceUpdate, hp]
  rw [presenceStep_tick rfl hf, (doneRd_listed h).1, hu]

/-- Settles O58, by induction on the number of samples. -/
theorem presenceHangsOnHighLine : Obligations.PresenceHangsOnHighLine := by
  intro n
  induction n with
  | zero => exact fun s rest h hp hc => ⟨s, rfl, hp, hc, h⟩
  | succ n ih =>
    intro s rest h hp hc
    have hfirst := calls_one (presenceStep_high h hp hc)
    obtain ⟨t, hrest, ht⟩ := ih (doneRd (setTick s)) rest (by simp [h, List.replicate_succ]) hp hc
    have hall := calls_append hfirst hrest
    rw [Nat.add_comm] at hall
    exact ⟨t, hall, ht⟩

end Sys2Proof.Machine
end

section
/-! SUPPORT. With legal registers no machine of OWM meets a reserved value: each completes (R190, R294). -/

namespace Sys2Proof.Machine

variable {s : State}

/-- A transaction step with a tick pending completes, whatever its code. -/
theorem txnStep_completes (h : RegsLegal s) (ht : s.tickFlag = true) (opc : Byte) : ∃ d, txnStep opc s = .ok d := by
  cases hw : s.txnState with
  | writing => exact ⟨_, txnStep_writing ht hw h.enc_one_hot⟩
  | reading =>
    by_cases hc : opc = s.cfg.opcConvertT
    · exact ⟨_, txnStep_ready ht hw hc⟩
    by_cases hm : opc = s.cfg.opcReadRom
    · exact ⟨_, txnStep_rom ht hw hc hm (romFault_none h.rom_phase_legal h.rom_byte_bound)⟩
    by_cases hs : opc = s.cfg.opcReadScratchpad
    · by_cases hsp : s.spIdx = spBits
      · exact ⟨_, txnStep_terminate ht hw hc hm hs hsp⟩
      · exact ⟨_, txnStep_collect ht hw hc hm hs hsp⟩
    · exact ⟨_, txnStep_other ht hw hc hm hs⟩

theorem seqReset_completes (h : RegsLegal s) (ht : s.tickFlag = true) : ∃ t, seqReset s = .ok t := by
  by_cases hr : s.resetIssued = true
  · exact ⟨_, seqReset_sample ht hr (presenceFault_none h.pd_state_legal h.pd_count_bound)⟩
  · rw [seqReset, if_neg hr, slotRst_tick ht]
    exact ⟨_, rfl⟩

theorem seqReadRom_completes (h : RegsLegal s) (ht : s.tickFlag = true) : ∃ t, seqReadRom s = .ok t := by
  obtain ⟨d, hd⟩ := txnStep_completes h ht s.cfg.opcReadRom
  rw [seqReadRom, hd]
  exact ⟨_, rfl⟩

theorem seqTrigger_completes (h : RegsLegal s) (ht : s.tickFlag = true) : ∃ t, seqTrigger s = .ok t := by
  obtain ⟨d, hd⟩ := txnStep_completes h ht s.cfg.opcConvertT
  rw [seqTrigger, hd]
  exact ⟨_, rfl⟩

theorem seqReadBack_completes (h : RegsLegal s) (ht : s.tickFlag = true) : ∃ t, seqReadBack s = .ok t := by
  obtain ⟨d, hd⟩ := txnStep_completes h ht s.cfg.opcReadScratchpad
  rw [seqReadBack, hd]
  dsimp only
  split <;> exact ⟨_, rfl⟩

/-- The sequencer completes in each of its states, and without a tick it is idle. -/
theorem seqStep_completes (h : RegsLegal s) : ∃ t, seqStep s = .ok t := by
  cases ht : s.tickFlag with
  | false => cases hq : s.seqState <;> simp [seqStep, hq, ht]
  | true =>
    cases hq : s.seqState with
    | invalid => exact absurd hq h.seq_legal
    | masterReset => simpa [seqStep, hq, ht] using seqReset_completes h ht
    | masterReadRom => simpa [seqStep, hq, ht] using seqReadRom_completes h ht
    | masterTxFnCommand =>
      cases hc : s.convTriggered with
      | false => simpa [seqStep, hq, ht, hc] using seqTrigger_completes h ht
      | true => simpa [seqStep, hq, ht, hc] using seqReadBack_completes h ht

theorem execStep_completes (h : RegsLegal s) (hi : s.initialised = true) : ∃ t, exec .step s = .next t := by
  obtain ⟨t, hs⟩ := seqStep_completes h
  exact ⟨t, by rw [exec, execStep, whenInitialised_on hi, hs, outcomeOf]⟩

/-- A code completes with a tick pending, as a transaction step, and without one, as an idle call (log entry 8). -/
theorem runTxn_completes (h : RegsLegal s) (hi : s.initialised = true) (opc : Byte) : ∃ t, runTxn opc s = .next t := by
  by_cases ht : s.tickFlag = true
  · obtain ⟨d, hd⟩ := txnStep_completes h ht opc
    exact ⟨_, runTxn_tick hi ht hd⟩
  · rw [runTxn, whenInitialised_on hi, if_neg ht]
    exact ⟨_, rfl⟩

/-- Settles O41, instruction by instruction; the nine codes are one case. -/
theorem legalStatesComplete : Obligations.LegalStatesComplete := by
  intro i s h hi hprim
  cases i with
  | init => exact ⟨_, rfl⟩
  | step => exact execStep_completes h hi
  | getTemp | getFamily => exact ⟨_, whenInitialised_on hi⟩
  | tick => exact ⟨_, execTick_initialised hi⟩
  | w0 => exact ⟨_, execW0_tick hi (hprim (by simp))⟩
  | w1 => exact ⟨_, execW1_tick hi (hprim (by simp))⟩
  | rd => exact ⟨_, execRd_tick hi (hprim (by simp))⟩
  | rst => exact ⟨_, execRst_tick hi (hprim (by simp))⟩
  | readRom | matchRom | skipRom | alarmSearch | convertT | writeScratchpad | readScratchpad | copyScratchpad
  | readPowerSupply =>
    rw [exec_lineCode rfl]
    exact runTxn_completes h hi _

end Sys2Proof.Machine
end

section
/-! SUPPORT. Writing a code bit by bit: what a written bit makes of a call in WRITING, and the serializer over all eight bits
(R150, R160, R210). -/

namespace Sys2Proof.Machine

variable {s : State} {opc : Byte} {k : Nat}

/-- Settles O33: the row runs one transaction step with its code, and in WRITING that step has one outcome. -/
theorem transactionSendsMaskedBit : Obligations.TransactionSendsMaskedBit := by
  intro i opc s hcode hi ht hw hm
  rw [exec_lineCode hcode, runTxn_tick hi ht (txnStep_writing ht hw hm), doneWrite_eq]
  dsimp only
  split <;> rfl

/-- At the mask of bit `k` the masked bit is bit `k` (R95). -/
theorem maskedBit_twoPow (hk : k < 8) : maskedBit opc (BitVec.twoPow 8 k) = opc.getLsbD k := by
  have hne : BitVec.twoPow 8 k ≠ 0#8 := by
    intro h
    simpa [hk] using congrArg (BitVec.getLsbD · k) h
  rw [maskedBit, BitVec.and_twoPow]
  cases opc.getLsbD k <;> simp [hne]

theorem isOneHot_twoPow : ∀ k < 8, isOneHot (BitVec.twoPow 8 k) = true := by decide

/-- Only bit 7 has the mask at which the encoder wraps. -/
theorem twoPow_ne_last : ∀ k < 7, BitVec.twoPow 8 k ≠ 0x80#8 := by decide

/-- The bus event that sends bit `k` of a code (R61, R150). -/
def bitEvent (opc : Byte) (k : Nat) : BusEvent := if opc.getLsbD k then .w1 else .w0

/-- Where bits 0 to `k - 1` have been sent after the events `sent`, the slot at the mask of bit `k` sends the next bit. -/
theorem doneWrite_sends_next {sent : List BusEvent} (hm : s.encMask = BitVec.twoPow 8 k) (hk : k < 8)
    (htrace : s.busTrace = sent ++ (List.range k).map (bitEvent opc)) :
    (doneWrite opc (setTick s)).busTrace = sent ++ (List.range (k + 1)).map (bitEvent opc) := by
  have hbit : maskedBit opc (setTick s).encMask = opc.getLsbD k := hm ▸ maskedBit_twoPow hk
  rw [doneWrite_busTrace, hbit, setTick_busTrace, htrace, List.range_succ, List.map_append, List.append_assoc]
  rfl

/-- The encoder before its last bit: PENDING, with the mask shifted (R150). -/
theorem encStep_pending (ht : s.tickFlag = true) (hm : isOneHot s.encMask = true) (h8 : s.encMask ≠ 0x80#8) :
    encStep opc s = .ok ⟨{ doneWrite opc s with encMask := s.encMask <<< 1 }, .pending, writeSlot opc s, false⟩ := by
  simp [encStep_tick ht hm, encUpdate, h8]

/-- The encoder at its last bit: FINISHED, with the mask at its first bit again (R150). -/
theorem encStep_finished (ht : s.tickFlag = true) (h8 : s.encMask = 0x80#8) :
    encStep opc s = .ok ⟨{ doneWrite opc s with encMask := 0x01#8 }, .finished, writeSlot opc s, false⟩ := by
  have hm : isOneHot s.encMask = true := by rw [h8]; decide
  simp [encStep_tick ht hm, encUpdate, h8]

/-- Up to seven encoder steps from mask 0x01 are all PENDING, send that many bits of the code in order, and leave the mask at
the next bit. -/
theorem calls_encStep_pending (hm : s.encMask = 0x01#8) (hk : k ≤ 7) :
    ∃ t, calls (encStep opc) k s = .ok (List.replicate k .pending, t) ∧
      t.busTrace = s.busTrace ++ (List.range k).map (bitEvent opc) ∧ t.encMask = BitVec.twoPow 8 k := by
  induction k with
  | zero => exact ⟨s, rfl, (List.append_nil _).symm, hm⟩
  | succ k ih =>
    obtain ⟨t, hcalls, htrace, hmask⟩ := ih (by omega)
    have hone : isOneHot (setTick t).encMask = true := hmask ▸ isOneHot_twoPow k (by omega)
    have h8 : (setTick t).encMask ≠ 0x80#8 := hmask ▸ twoPow_ne_last k (by omega)
    refine ⟨{ doneWrite opc (setTick t) with encMask := t.encMask <<< 1 }, ?_, ?_, ?_⟩
    · rw [List.replicate_succ']
      exact calls_append hcalls (calls_one (encStep_pending rfl hone h8))
    · exact doneWrite_sends_next hmask (by omega) htrace
    · rw [hmask, BitVec.twoPow_eq, BitVec.twoPow_eq, BitVec.shiftLeft_add]

/-- Settles O54: seven PENDING steps, then the last bit. -/
theorem serializerSendsBitsInOrder : Obligations.SerializerSendsBitsInOrder := by
  intro opc s hm
  obtain ⟨t, hcalls, htrace, hmask⟩ := calls_encStep_pending (opc := opc) hm le_rfl
  exact ⟨{ doneWrite opc (setTick t) with encMask := 0x01#8 },
    calls_append hcalls (calls_one (encStep_finished rfl hmask)),
    doneWrite_sends_next hmask (by decide) htrace, rfl⟩

end Sys2Proof.Machine
end

section
/-! SUPPORT. One step of a reply, called on its own: the ROM reply, the scratchpad reply, and a code without a reply decoder
(R181 to R189, R211). -/

namespace Sys2Proof.Machine

variable {s u : State}

/-- Settles O38: the row runs one transaction step with its code, and that code has no reply decoder. -/
theorem unsupportedReplyError : Obligations.UnsupportedReplyError := by
  intro i opc s hcode hrom hconv hsp hi ht hr
  rw [exec_lineCode hcode, runTxn_tick hi ht (txnStep_other ht hr hconv hrom hsp), doneRd_eq]
  rfl

/-- Settles O37, by whether all 15 bits have been collected. -/
theorem scratchpadReplyStep : Obligations.ScratchpadReplyStep := by
  intro s hw hi ht hr
  obtain ⟨-, hrs, hcs⟩ := Config.wellFormed_ne hw
  dsimp only
  rw [exec_lineCode rfl, zeroExtend_ofBool16]
  constructor
  · intro hidx
    rw [runTxn_tick hi ht (txnStep_collect ht hr hcs.symm hrs.symm rfl hidx), doneRd_eq]
    rfl
  · intro hidx
    rw [runTxn_tick hi ht (txnStep_terminate ht hr hcs.symm hrs.symm rfl hidx), doneRst_eq]
    rfl

/-- READ ROM called on its own in READING is one step of the ROM builder; short of its last bit it answers PENDING (R211). -/
theorem execReadRom_pending (hw : s.cfg.wellFormed = true) (hi : s.initialised = true) (ht : s.tickFlag = true)
    (hr : s.txnState = .reading) (hf : romFault s = none)
    (hu : romUpdate (lineLevel s) (doneRd s) = (.pending, u)) :
    exec .readRom s = .next (respondOk .pending .rd (lineLevel s) 0#16 u) := by
  obtain ⟨hrc, -, -⟩ := Config.wellFormed_ne hw
  rw [exec_lineCode rfl, runTxn_tick hi ht (txnStep_rom ht hr hrc rfl hf), hu]
  rfl

/-- At the builder's last bit READ ROM answers FINISHED, and the transaction is back in WRITING (R184, R211). -/
theorem execReadRom_finished (hw : s.cfg.wellFormed = true) (hi : s.initialised = true) (ht : s.tickFlag = true)
    (hr : s.txnState = .reading) (hf : romFault s = none)
    (hu : romUpdate (lineLevel s) (doneRd s) = (.finished, u)) :
    exec .readRom s = .next (respondOk .finished .rd (lineLevel s) 0#16 { u with txnState := .writing }) := by
  obtain ⟨hrc, -, -⟩ := Config.wellFormed_ne hw
  rw [exec_lineCode rfl, runTxn_tick hi ht (txnStep_rom ht hr hrc rfl hf), hu]
  rfl

/-- Settles O35, by the phase, and in each phase by whether the bit is the field's last. -/
theorem readRomReplyStep : Obligations.ReadRomReplyStep := by
  intro s hw hi ht hr hbyte
  dsimp only
  rw [zeroExtend_ofBool8]
  refine ⟨fun hp => ?_, fun hp => ?_, fun hp => ?_⟩
  · have hu := romUpdate_family (s := doneRd s) (b := lineLevel s) hp
    have hf : romFault s = none := romFault_none (by simp [hp]) hbyte
    by_cases h7 : s.romBit = 7#3
    · rw [if_pos h7, execReadRom_pending hw hi ht hr hf (hu.trans (if_pos h7)), doneRd_eq]
      rfl
    · rw [if_neg h7, execReadRom_pending hw hi ht hr hf (hu.trans (if_neg h7)), doneRd_eq]
      rfl
  · have hu := romUpdate_serial (s := doneRd s) (b := lineLevel s) hp
    have hf : romFault s = none := romFault_none (by simp [hp]) hbyte
    refine ⟨setSerialBit s.romSerial s.romByte s.romBit (lineLevel s), setSerialBit_getElem _ _ _ _, ?_⟩
    by_cases h7 : s.romBit = 7#3
    · have hu := hu.trans (if_pos h7)
      by_cases h5 : s.romByte = 5#3
      · rw [if_pos h7, if_pos h5, execReadRom_pending hw hi ht hr hf (hu.trans (if_pos h5)), doneRd_eq]
        rfl
      · rw [if_pos h7, if_neg h5, execReadRom_pending hw hi ht hr hf (hu.trans (if_neg h5)), doneRd_eq]
        rfl
    · rw [if_neg h7, execReadRom_pending hw hi ht hr hf (hu.trans (if_neg h7)), doneRd_eq]
      rfl
  · have hu := romUpdate_crc (s := doneRd s) (b := lineLevel s) hp
    have hf : romFault s = none := romFault_none (by simp [hp]) hbyte
    by_cases h7 : s.romBit = 7#3
    · rw [if_pos h7, execReadRom_finished hw hi ht hr hf (hu.trans (if_pos h7)), doneRd_eq]
      rfl
    · rw [if_neg h7, execReadRom_pending hw hi ht hr hf (hu.trans (if_neg h7)), doneRd_eq]
      rfl

end Sys2Proof.Machine
end

section
/-! SUPPORT. The faults of the sub-machines at a reserved register value, and that the event that runs the sub-machine answers
with its fault (R190, U1). -/

namespace Sys2Proof.Machine

variable {s : State} {opc : Byte} {f : Fault}

theorem presenceFault_of_reservedState (h : s.pdState = .terminal ∨ s.pdState = .reserved) :
    presenceFault s = some .pdStateReserved := if_pos h

theorem presenceFault_of_countOutOfRange (hs : s.pdState = .waitLow ∨ s.pdState = .countLow)
    (hc : s.pdCount = 6#3 ∨ s.pdCount = 7#3) : presenceFault s = some .pdCountOutOfRange := by
  have hstate : ¬(s.pdState = .terminal ∨ s.pdState = .reserved) := by rcases hs with h | h <;> simp [h]
  have hcount : s.pdCount > pdMaxLow := by rcases hc with h | h <;> rw [h] <;> decide
  rw [presenceFault, if_neg hstate, if_pos hcount]

theorem romFault_of_reservedPhase (h : s.romPhase = .reserved) : romFault s = some .romPhaseReserved := if_pos h

theorem romFault_of_byteOutOfRange (hp : s.romPhase ≠ .reserved) (hb : s.romByte = 6#3 ∨ s.romByte = 7#3) :
    romFault s = some .romByteOutOfRange := by
  have hbyte : s.romByte > lastSerialByte := by rcases hb with h | h <;> rw [h] <;> decide
  rw [romFault, if_neg hp, if_pos hbyte]

/-- A presence sample with a reserved value is a fault of its STEP (R232). -/
theorem seqReset_presenceFault (hr : s.resetIssued = true) (hf : presenceFault s = some f) : seqReset s = .error f := by
  rw [seqReset, if_pos hr, presenceStep, hf]

/-- A mask that is not one-hot is a fault of the transaction in WRITING, whatever its code (R210). -/
theorem txnStep_maskFault (hw : s.txnState = .writing) (hm : isOneHot s.encMask = false) :
    txnStep opc s = .error .encMaskNotOneHot := by
  simp [txnStep, hw, txnWrite, encStep, hm]

/-- A reserved value of the ROM builder is a fault of the READ ROM transaction in READING (R211). -/
theorem txnStep_romFault (hw : s.cfg.wellFormed = true) (hr : s.txnState = .reading) (hf : romFault s = some f) :
    txnStep s.cfg.opcReadRom s = .error f := by
  obtain ⟨hrc, -, -⟩ := Config.wellFormed_ne hw
  simp [txnStep, hr, txnRead, hrc, decStep, romStep, hf]

/-- A code called on its own answers with the fault of its transaction step. -/
theorem exec_lineCode_error {i : Instr} (hi : s.initialised = true) (ht : s.tickFlag = true)
    (hcode : lineCode s.cfg i = some opc) (hd : txnStep opc s = .error f) : exec i s = .fault f := by
  rw [exec_lineCode hcode, runTxn, whenInitialised_on hi, if_pos ht, hd]

/-- A progressing STEP answers with the fault of the transaction step it runs (R231). -/
theorem execStep_txnError (hi : s.initialised = true) (ht : s.tickFlag = true) (ho : selOpc s = some opc)
    (hd : txnStep opc s = .error f) : exec .step s = .fault f := by
  cases hq : s.seqState with
  | masterReset => simp [selOpc, hq] at ho
  | masterReadRom =>
    obtain rfl : s.cfg.opcReadRom = opc := by simpa [selOpc, hq] using ho
    rw [execStep_readRom hi ht hq, seqReadRom, hd]
    rfl
  | masterTxFnCommand =>
    cases hc : s.convTriggered with
    | false =>
      obtain rfl : s.cfg.opcConvertT = opc := by simpa [selOpc, hq, hc] using ho
      rw [execStep_trigger hi ht hq hc, seqTrigger, hd]
      rfl
    | true =>
      obtain rfl : s.cfg.opcReadScratchpad = opc := by simpa [selOpc, hq, hc] using ho
      rw [execStep_readBack hi ht hq hc, seqReadBack, hd]
      rfl
  | invalid => simp [selOpc, hq] at ho

/-- A reserved value of the ROM builder faults the row READ ROM, and the STEP that reads the ROM. -/
theorem readRom_romFault (hw : s.cfg.wellFormed = true) (hi : s.initialised = true) (ht : s.tickFlag = true)
    (hr : s.txnState = .reading) (hf : romFault s = some f) :
    exec .readRom s = .fault f ∧ (s.seqState = .masterReadRom → exec .step s = .fault f) :=
  have hd := txnStep_romFault hw hr hf
  ⟨exec_lineCode_error hi ht rfl hd, fun hq => execStep_txnError hi ht ((selOpc_readRom_iff hw).mpr hq) hd⟩

/-- The sequencer selects a code in the two states that run a transaction (R231). -/
theorem exists_selOpc (hq : s.seqState = .masterReadRom ∨ s.seqState = .masterTxFnCommand) :
    ∃ opc, selOpc s = some opc := by
  rcases hq with h | h <;> simp [selOpc, h]

/-- Settles O39, clause by clause: the sub-machine that uses the register faults, and its event with it. -/
theorem reservedRegistersFault : Obligations.ReservedRegistersFault := by
  intro s hw hi ht
  refine ⟨fun hq hr => ?_, fun htx hm => ?_, fun htx => ?_⟩
  · rw [execStep_reset hi ht hq]
    refine ⟨fun hs => ?_, fun hs hc => ?_⟩
    · rw [seqReset_presenceFault hr (presenceFault_of_reservedState hs)]
      rfl
    · rw [seqReset_presenceFault hr (presenceFault_of_countOutOfRange hs hc)]
      rfl
  · refine ⟨fun i opc hcode => exec_lineCode_error hi ht hcode (txnStep_maskFault htx hm), fun hq => ?_⟩
    obtain ⟨opc, ho⟩ := exists_selOpc hq
    exact execStep_txnError hi ht ho (txnStep_maskFault htx hm)
  · exact ⟨fun hp => readRom_romFault hw hi ht htx (romFault_of_reservedPhase hp),
      fun hp hb => readRom_romFault hw hi ht htx (romFault_of_byteOutOfRange hp hb)⟩

end Sys2Proof.Machine
end

section
/-! SUPPORT. No event reads the serial number or the CRC: each machine answers alike on a state with any other serial number
and CRC, and its next state differs in them alone (R46, R191). -/

namespace Sys2Proof.Machine

variable {s t : State} {i : Instr} {opc : Byte} {d : SubDone} {serial : Vector Byte 6} {crc : Byte} {b : Bool}

/-- The state with another serial number and another CRC. -/
def withRecord (serial : Vector Byte 6) (crc : Byte) (s : State) : State := { s with romSerial := serial, romCrc := crc }

@[simp] theorem withRecord_cfg : (withRecord serial crc s).cfg = s.cfg := rfl

theorem lineLevel_withRecord : lineLevel (withRecord serial crc s) = lineLevel s := rfl

theorem doneRd_withRecord : doneRd (withRecord serial crc s) = withRecord serial crc (doneRd s) := rfl

theorem doneWrite_withRecord : doneWrite opc (withRecord serial crc s) = withRecord serial crc (doneWrite opc s) := by
  rw [doneWrite_eq, doneWrite_eq]
  rfl

/-- The presence machine's update keeps the two fields and does not read them. -/
theorem presenceUpdate_withRecord :
    presenceUpdate b (withRecord serial crc s) = (presenceUpdate b s).map id (withRecord serial crc) := by
  obtain ⟨rfl, hc, he⟩ | ⟨rfl, hc, he⟩ | ⟨rfl, hp, he⟩ | ⟨rfl, hp, he⟩ := presenceUpdate_cases b s <;> rw [he]
  · exact if_pos hc
  · exact if_neg hc
  · exact if_pos hp
  · exact if_neg hp

theorem presenceAnswer_withRecord {p : Status × State} :
    presenceAnswer b (p.map id (withRecord serial crc)) = withRecord serial crc (presenceAnswer b p) := by
  obtain ⟨st, u⟩ := p
  cases st <;> rfl

theorem readyUpdate_withRecord :
    readyUpdate b (withRecord serial crc s) = (readyUpdate b s).map id (withRecord serial crc) := by
  cases b <;> rfl

/-- The ROM builder writes the two fields, and neither its status nor any other register depends on them (R191). -/
theorem romUpdate_withRecord (b : Bool) (s : State) (serial : Vector Byte 6) (crc : Byte) :
    ∃ serial' crc', romUpdate b (withRecord serial crc s) = (romUpdate b s).map id (withRecord serial' crc') := by
  cases hp : s.romPhase with
  | family =>
    refine ⟨serial, crc, ?_⟩
    rw [romUpdate_family (s := withRecord serial crc s) hp]
    simp only [romUpdate_family hp, romFamilyUpdate, apply_ite (Prod.map id (withRecord serial crc))]
    rfl
  | serial =>
    refine ⟨setSerialBit serial s.romByte s.romBit b, crc, ?_⟩
    rw [romUpdate_serial (s := withRecord serial crc s) hp]
    simp only [romUpdate_serial hp, romSerialUpdate, apply_ite (Prod.map id (withRecord _ crc))]
    rfl
  | crc =>
    refine ⟨serial, setBit crc s.romBit b, ?_⟩
    rw [romUpdate_crc (s := withRecord serial crc s) hp]
    simp only [romUpdate_crc hp, romCrcUpdate, apply_ite (Prod.map id (withRecord serial _))]
    rfl
  | reserved => exact ⟨serial, crc, by simp [romUpdate, hp, withRecord]⟩

theorem txnRespond_withRecord :
    txnRespond { d with state := withRecord serial crc d.state } = withRecord serial crc (txnRespond d) := by
  obtain ⟨u, st, slot, sample⟩ := d
  cases st <;> rfl

/-- A transaction step that completes does so whatever the serial number and the CRC. -/
theorem txnStep_withRecord (hd : txnStep opc s = .ok d) (serial : Vector Byte 6) (crc : Byte) :
    ∃ serial' crc', txnStep opc (withRecord serial crc s) = .ok { d with state := withRecord serial' crc' d.state } := by
  obtain ⟨ht, ⟨hw, hm, rfl⟩ | ⟨hr, ho, rfl⟩ | ⟨hr, hc, ho, hf, rfl⟩ | ⟨hr, hc, hm, ho, hi, rfl⟩ |
    ⟨hr, hc, hm, ho, hi, rfl⟩ | ⟨hr, hc, hm, hs, rfl⟩⟩ := txnStep_inv hd
  · refine ⟨serial, crc, ?_⟩
    rw [txnStep_writing (s := withRecord serial crc s) ht hw hm, doneWrite_withRecord, apply_ite (withRecord serial crc)]
    rfl
  · refine ⟨serial, crc, ?_⟩
    rw [txnStep_ready (s := withRecord serial crc s) ht hr ho, doneRd_withRecord, readyUpdate_withRecord]
    rfl
  · obtain ⟨serial', crc', hu⟩ := romUpdate_withRecord (lineLevel s) (doneRd s) serial crc
    refine ⟨serial', crc', ?_⟩
    rw [txnStep_rom (s := withRecord serial crc s) ht hr hc ho hf, doneRd_withRecord, lineLevel_withRecord, hu,
      apply_ite (withRecord serial' crc')]
    rfl
  · exact ⟨serial, crc, txnStep_collect (s := withRecord serial crc s) ht hr hc hm ho hi⟩
  · exact ⟨serial, crc, txnStep_terminate (s := withRecord serial crc s) ht hr hc hm ho hi⟩
  · exact ⟨serial, crc, txnStep_other (s := withRecord serial crc s) ht hr hc hm hs⟩

/-- MASTER_RESET completes whatever the serial number and the CRC, and keeps them. -/
theorem seqReset_withRecord (h : seqReset s = .ok t) (serial : Vector Byte 6) (crc : Byte) :
    seqReset (withRecord serial crc s) = .ok (withRecord serial crc t) := by
  have hsample (ht : s.tickFlag = true) (hr : s.resetIssued = true) (hf : presenceFault s = none) :
      seqReset (withRecord serial crc s) = .ok (withRecord serial crc t) := by
    rw [seqReset_sample ht hr hf] at h
    cases h
    rw [seqReset_sample (s := withRecord serial crc s) ht hr hf, doneRd_withRecord, presenceUpdate_withRecord,
      presenceAnswer_withRecord]
    rfl
  obtain ⟨ht, ⟨hr, rfl⟩ | ⟨hr, hf, -⟩ | ⟨hr, hf, -⟩ | ⟨hr, hf, -⟩ | ⟨hr, hf, -⟩⟩ := seqReset_inv h
  · rw [seqReset, if_neg (by simp [withRecord, hr]), slotRst_tick (s := withRecord serial crc s) ht]
    rfl
  all_goals exact hsample ht hr hf

/-- A STEP without a tick is idle (R230). -/
theorem execStep_idle (hi : s.initialised = true) (ht : s.tickFlag = false) (hq : s.seqState ≠ .invalid) :
    exec .step s = .next (respondOk .pending .none false 0#16 s) := by
  rw [exec, execStep, whenInitialised_on hi]
  cases hs : s.seqState with
  | invalid => exact absurd hs hq
  | masterReset | masterReadRom | masterTxFnCommand => simp [seqStep, hs, ht, outcomeOf]

/-- A STEP in the invalid state reports it and recovers, with a tick or without (R236, R262). -/
theorem execStep_invalid (hi : s.initialised = true) (hq : s.seqState = .invalid) :
    exec .step s = .next (raiseError .invalidState .none false s) := by
  rw [exec, execStep, whenInitialised_on hi, seqStep, hq]
  rfl

/-- A STEP that completes does so whatever the serial number and the CRC, case by case of what a STEP can do. -/
theorem execStep_withRecord (h : exec .step s = .next t) (serial : Vector Byte 6) (crc : Byte) :
    ∃ serial' crc', exec .step (withRecord serial crc s) = .next (withRecord serial' crc' t) := by
  obtain ⟨hi, hstep⟩ := execStep_inv h
  obtain ⟨hq, rfl⟩ | ⟨hq, ht, rfl⟩ | ⟨ht, hq, hr⟩ | ⟨ht, hq, hr⟩ | ⟨ht, hq, hc, hr⟩ | ⟨ht, hq, hc, hr⟩ :=
    seqStep_inv hstep
  · exact ⟨serial, crc, execStep_invalid (s := withRecord serial crc s) hi hq⟩
  · exact ⟨serial, crc, execStep_idle (s := withRecord serial crc s) hi ht hq⟩
  · refine ⟨serial, crc, ?_⟩
    rw [execStep_reset (s := withRecord serial crc s) hi ht hq, seqReset_withRecord hr]
    rfl
  · obtain ⟨d, hd, rfl⟩ := seqReadRom_inv hr
    obtain ⟨serial', crc', hd'⟩ := txnStep_withRecord hd serial crc
    refine ⟨serial', crc', ?_⟩
    rw [execStep_readRom (s := withRecord serial crc s) hi ht hq, seqReadRom, withRecord_cfg, hd']
    dsimp only
    split <;> rfl
  · obtain ⟨d, hd, rfl⟩ := seqTrigger_inv hr
    obtain ⟨serial', crc', hd'⟩ := txnStep_withRecord hd serial crc
    refine ⟨serial', crc', ?_⟩
    rw [execStep_trigger (s := withRecord serial crc s) hi ht hq hc, seqTrigger, withRecord_cfg, hd']
    dsimp only
    split <;> rfl
  · obtain ⟨d, hd, rfl⟩ := seqReadBack_inv hr
    obtain ⟨serial', crc', hd'⟩ := txnStep_withRecord hd serial crc
    refine ⟨serial', crc', ?_⟩
    rw [execStep_readBack (s := withRecord serial crc s) hi ht hq hc, seqReadBack, withRecord_cfg, hd']
    dsimp only
    split <;> rfl

/-- A code called on its own completes whatever the serial number and the CRC. -/
theorem runTxn_withRecord (h : runTxn opc s = .next t) (serial : Vector Byte 6) (crc : Byte) :
    ∃ serial' crc', runTxn opc (withRecord serial crc s) = .next (withRecord serial' crc' t) := by
  obtain ⟨hi, ⟨ht, d, hd, rfl⟩ | ⟨ht, rfl⟩⟩ := runTxn_inv h
  · obtain ⟨serial', crc', hd'⟩ := txnStep_withRecord hd serial crc
    refine ⟨serial', crc', (runTxn_tick (s := withRecord serial crc s) hi ht hd').trans ?_⟩
    rw [txnRespond_withRecord]
  · refine ⟨serial, crc, ?_⟩
    rw [runTxn, whenInitialised_on (s := withRecord serial crc s) hi, if_neg (by simp [withRecord, ht])]
    rfl

/-- A primitive called on its own completes whatever the serial number and the CRC, where its slot keeps them. -/
theorem runSlot_withRecord {prim : State → Except Fault SlotDone} {done : State → SlotDone}
    (hp : ∀ u, prim u = withTick u (done u))
    (hd : (done (withRecord serial crc s)).state = withRecord serial crc (done s).state)
    (h : runSlot prim s = .next t) : runSlot prim (withRecord serial crc s) = .next (withRecord serial crc t) := by
  obtain ⟨hi, e, he, rfl⟩ := runSlot_inv h
  obtain ⟨ht, rfl⟩ := withTick_ok ((hp s).symm.trans he)
  exact (runSlot_ok (s := withRecord serial crc s) hi ((hp _).trans (withTick_on ht))).trans (congrArg _ hd)

/-- Settles O51, instruction by instruction; the four primitives are one argument, and the nine codes are another. -/
theorem serialAndCrcNeverRead : Obligations.SerialAndCrcNeverRead := by
  intro i s t serial crc h
  cases i with
  | init => cases execInit_inv h; exact ⟨_, _, rfl⟩
  | step => exact execStep_withRecord h serial crc
  | getTemp =>
    obtain ⟨hi, rfl⟩ := execGetTemp_inv h
    exact ⟨serial, crc, whenInitialised_on (s := withRecord serial crc s) hi⟩
  | getFamily =>
    obtain ⟨hi, rfl⟩ := execGetFamily_inv h
    exact ⟨serial, crc, whenInitialised_on (s := withRecord serial crc s) hi⟩
  | tick =>
    obtain ⟨hi, rfl⟩ := execTick_inv h
    exact ⟨serial, crc, execTick_initialised (s := withRecord serial crc s) hi⟩
  | w0 => exact ⟨serial, crc, runSlot_withRecord (done := fun u => ⟨doneW0 u, .w0, false⟩) (fun _ => rfl) rfl h⟩
  | w1 => exact ⟨serial, crc, runSlot_withRecord (done := fun u => ⟨doneW1 u, .w1, false⟩) (fun _ => rfl) rfl h⟩
  | rd => exact ⟨serial, crc, runSlot_withRecord (done := fun u => ⟨doneRd u, .rd, lineLevel u⟩) (fun _ => rfl) rfl h⟩
  | rst => exact ⟨serial, crc, runSlot_withRecord (done := fun u => ⟨doneRst u, .rst, false⟩) (fun _ => rfl) rfl h⟩
  | readRom | matchRom | skipRom | alarmSearch | convertT | writeScratchpad | readScratchpad | copyScratchpad
  | readPowerSupply => exact runTxn_withRecord h serial crc

end Sys2Proof.Machine
end

section
/-! SUPPORT. A reply received sample by sample: the bits of a stream, and the calls of a sub-machine that takes one sample in
each (R62 to R64). -/

namespace Sys2Proof.Machine

/-- The bits of a stream with one more sample at its end; past the end a stream reads as 0. -/
theorem getD_append_singleton (l : List Bool) (b : Bool) (j : Nat) :
    (l ++ [b]).getD j false = (l.getD j false || (b && decide (j = l.length))) := by
  rcases lt_trichotomy j l.length with h | rfl | h
  · simp [List.getElem?_append_left h, h.ne]
  · simp
  · rw [List.getD_eq_default _ _ h.le, List.getD_eq_default _ _ (by simpa using h)]
    simp [h.ne']

/-- The bits of the number a stream stands for are its samples (R62). -/
theorem testBit_streamValue (l : List Bool) (j : Nat) : (streamValue l).testBit j = l.getD j false := by
  induction l generalizing j with
  | nil => simp [streamValue]
  | cons b bs ih =>
    have hhead : streamValue (b :: bs) = Nat.bit b (streamValue bs) := by rw [Nat.bit_val, add_comm]; rfl
    cases j with
    | zero => rw [hhead, Nat.testBit_bit_zero, List.getD_cons_zero]
    | succ j => rw [hhead, Nat.testBit_bit_succ, ih, List.getD_cons_succ]

theorem streamValue_lt (l : List Bool) : streamValue l < 2 ^ l.length := by
  apply Nat.lt_pow_two_of_testBit
  intro j hj
  rw [testBit_streamValue, List.getD_eq_default _ _ hj]

/-- Where each of the first `n` samples is taken by one PENDING call that carries `P` from the samples taken to one more, up
to `n` calls take up to `n` samples. -/
theorem calls_pending {f : State → Except Fault SubDone} {P : List Bool → List Bool → State → Prop} {n : Nat}
    (hstep : ∀ taken b rest t, taken.length < n → P taken (b :: rest) t →
      ∃ d, f (setTick t) = .ok d ∧ d.status = .pending ∧ P (taken ++ [b]) rest d.state)
    {s : State} {stream rest : List Bool} (hlen : stream.length ≤ n) (h0 : P [] (stream ++ rest) s) :
    ∃ t, calls f stream.length s = .ok (List.replicate stream.length .pending, t) ∧ P stream rest t := by
  induction stream using List.reverseRecOn generalizing rest with
  | nil => exact ⟨s, rfl, h0⟩
  | append_singleton taken b ih =>
    rw [List.length_append, List.length_singleton] at hlen ⊢
    obtain ⟨t, hcalls, ht⟩ := ih (rest := b :: rest) (by omega) (by simpa using h0)
    obtain ⟨d, hd, hpending, hnext⟩ := hstep taken b rest t hlen ht
    have hlast := calls_one hd
    rw [hpending] at hlast
    exact ⟨d.state, List.replicate_succ' ▸ calls_append hcalls hlast, hnext⟩

end Sys2Proof.Machine
end

section
/-! SUPPORT. The scratchpad accumulator: after each sample it holds the number that the samples so far stand for (R64, R186 to
R188). -/

namespace Sys2Proof.Machine

variable {s t : State} {b : Bool} {taken rest : List Bool}

/-- From `s` the accumulator has taken the samples `taken`, and `rest` is to come. -/
structure Collected (s : State) (taken rest : List Bool) (t : State) : Prop where
  trace   : t.busTrace = s.busTrace ++ taken.map .rd
  samples : t.samples = rest
  index   : t.spIdx.toNat = taken.length
  /-- Before the first sample the accumulator holds an old value, which that sample clears (R186, D9). -/
  bits    : taken ≠ [] → ∀ j, t.tempAcc.getLsbD j = taken.getD j false

theorem collected_start (hidx : s.spIdx = 0#4) (hs : s.samples = rest) : Collected s [] rest s where
  trace := (List.append_nil _).symm
  samples := hs
  index := congrArg BitVec.toNat hidx
  bits := fun hne => absurd rfl hne

/-- Inserting a sample at the index at which the samples so far end (R186). -/
theorem setTempBit_next (h : Collected s taken rest t) (b : Bool) (j : Nat) :
    (setTempBit t.tempAcc t.spIdx b).getLsbD j = (taken ++ [b]).getD j false := by
  rw [setTempBit_getLsbD, getD_append_singleton, h.index]
  by_cases hempty : taken = []
  · have hzero : t.spIdx = 0#4 := BitVec.eq_of_toNat_eq (h.index.trans (congrArg List.length hempty))
    rw [if_pos hzero, hempty]
    rfl
  · have hne : t.spIdx ≠ 0#4 := fun hz =>
      hempty (List.length_eq_zero_iff.mp (h.index.symm.trans (congrArg BitVec.toNat hz)))
    rw [if_neg hne, h.bits hempty]

/-- One collecting step takes the next sample (R186). -/
theorem spStep_collected (hlen : taken.length < 15) (h : Collected s taken (b :: rest) t) :
    ∃ d, spStep (setTick t) = .ok d ∧ d.status = .pending ∧ Collected s (taken ++ [b]) rest d.state := by
  have hidx : (setTick t).spIdx ≠ spBits := fun hi =>
    hlen.ne (h.index.symm.trans (congrArg BitVec.toNat hi))
  obtain ⟨hlevel, -⟩ := doneRd_listed h.samples
  refine ⟨_, spStep_collect rfl hidx, rfl, ?_⟩
  rw [hlevel]
  constructor
  case trace => simp [spCollect, h.trace, hlevel]
  case samples => simp [spCollect, h.samples]
  case index =>
    have hnext : (t.spIdx + 1).toNat = t.spIdx.toNat + 1 := BitVec.toNat_add_of_lt (by simp [h.index]; omega)
    rw [List.length_append, ← h.index]
    exact hnext
  case bits => exact fun _ => setTempBit_next h b

/-- Settles O56: 15 collecting steps, then the terminating reset. -/
theorem scratchpadAccumulates : Obligations.ScratchpadAccumulates := by
  intro s stream rest hlen hs hidx
  obtain ⟨t, hcalls, h⟩ :=
    calls_pending (fun _ _ _ _ => spStep_collected) hlen.le (collected_start hidx hs)
  rw [hlen] at hcalls
  have hlast : (setTick t).spIdx = spBits := BitVec.eq_of_toNat_eq (h.index.trans hlen)
  have hne : stream ≠ [] := List.ne_nil_of_length_pos (by omega)
  have hvalue : t.tempAcc.toNat = streamValue stream :=
    Nat.eq_of_testBit_eq fun j => (h.bits hne j).trans (testBit_streamValue stream j).symm
  have hbound : t.tempAcc.toNat ≤ 0x7FFF := by
    have hlt := streamValue_lt stream
    rw [hlen] at hlt
    omega
  refine ⟨_, calls_append hcalls (calls_one (spStep_terminate rfl hlast)), ?_, hvalue, hbound, rfl, ?_, h.samples⟩
  · simp [spTerminate, h.trace]
  · exact (scaleTemp_toNat hbound).trans (congrArg (· / 16) hvalue)

end Sys2Proof.Machine
end

section
/-! SUPPORT. The ROM builder over 64 samples: the record as eight bytes, the place in it that the builder's registers stand for,
and the bits after each sample (R63, R181 to R185). -/

namespace Sys2Proof.Machine

variable {s t : State} {p m : Nat} {b : Bool} {taken rest : List Bool}

/-- The record byte by byte in the order received: the family code, the six serial bytes, the CRC (R63). -/
def recordByte (s : State) : Nat → Byte
  | 0     => s.romFamily
  | k + 1 => if h : k < 6 then s.romSerial[k] else s.romCrc

/-- Bit `m` of the record, of 64, in the order received (R63). -/
def recordBit (s : State) (m : Nat) : Bool := (recordByte s (m / 8)).getLsbD (m % 8)

/-- The byte of the record that the builder's phase and byte index stand for (R31, R33). -/
def builderByte (s : State) : Nat :=
  match s.romPhase with
  | .family   => 0
  | .serial   => s.romByte.toNat + 1
  | .crc      => 7
  | .reserved => 8

theorem builderByte_family (h : s.romPhase = .family) : builderByte s = 0 := by rw [builderByte, h]

theorem builderByte_serial (h : s.romPhase = .serial) : builderByte s = s.romByte.toNat + 1 := by rw [builderByte, h]

theorem builderByte_crc (h : s.romPhase = .crc) : builderByte s = 7 := by rw [builderByte, h]

/-- The builder's registers are legal, and stand for bit `p` of the record. -/
structure BuilderAt (s : State) (p : Nat) : Prop where
  place      : p = 8 * builderByte s + s.romBit.toNat
  phase      : s.romPhase ≠ .reserved
  byte_bound : s.romByte.toNat ≤ 5
  byte_zero  : s.romPhase ≠ .serial → s.romByte = 0#3

theorem builderAt_start (hp : s.romPhase = .family) (hbit : s.romBit = 0#3) (hbyte : s.romByte = 0#3) :
    BuilderAt s 0 where
  place := by rw [builderByte_family hp, hbit]; rfl
  phase := by simp [hp]
  byte_bound := by simp [hbyte]
  byte_zero := fun _ => hbyte

/-- A three-bit index short of its last value does not wrap. -/
theorem toNat_add_one {x : BitVec 3} (h : x ≠ 7#3) : (x + 1).toNat = x.toNat + 1 := by
  revert x; decide

/-- Before the last bit of a byte the next place is the next bit. -/
theorem BuilderAt.next_bit (h : BuilderAt s p) (h7 : s.romBit ≠ lastBit) :
    BuilderAt { s with romBit := s.romBit + 1 } (p + 1) where
  place := by
    have hbyte : builderByte { s with romBit := s.romBit + 1 } = builderByte s := rfl
    rw [hbyte, toNat_add_one h7, ← Nat.add_assoc, ← h.place]
  phase := h.phase
  byte_bound := h.byte_bound
  byte_zero := h.byte_zero

/-- After the last bit of a byte the next place begins the next byte. -/
theorem BuilderAt.next_byte (h : BuilderAt s p) (h7 : s.romBit = lastBit) : p + 1 = 8 * (builderByte s + 1) := by
  have hlast : s.romBit.toNat = 7 := congrArg BitVec.toNat h7
  have hplace := h.place
  omega

/-- Before the last bit of the record the builder answers PENDING and goes one bit on (R182 to R184). -/
theorem romUpdate_advances (h : BuilderAt s p) (hp : p < 63) (b : Bool) :
    (romUpdate b s).1 = .pending ∧ BuilderAt (romUpdate b s).2 (p + 1) := by
  obtain ⟨hq, h7, he⟩ | ⟨hq, h7, he⟩ | ⟨hq, h7, he⟩ | ⟨hq, h7, h5, he⟩ | ⟨hq, h7, h5, he⟩ | ⟨hq, h7, he⟩ | ⟨hq, h7, -⟩ |
    ⟨hq, -⟩ := romUpdate_cases b s
  · rw [he]
    exact ⟨rfl, { h.next_bit h7 with }⟩
  · rw [he]
    have h0 : s.romByte.toNat = 0 := congrArg BitVec.toNat (h.byte_zero (by simp [hq]))
    have hplace : p + 1 = 8 * (s.romByte.toNat + 1) := by rw [h.next_byte h7, builderByte_family hq, h0]
    exact ⟨rfl, hplace, nofun, h.byte_bound, fun hn => absurd rfl hn⟩
  · rw [he]
    exact ⟨rfl, { h.next_bit h7 with }⟩
  · rw [he]
    have hbound := h.byte_bound
    have hne : s.romByte.toNat ≠ 5 := fun h => h5 (BitVec.eq_of_toNat_eq h)
    have hnext : (s.romByte + 1).toNat = s.romByte.toNat + 1 := toNat_add_one fun h => by simp [h] at hbound
    have hbyte : builderByte { s with romByte := s.romByte + 1 } = builderByte s + 1 := by
      rw [builderByte_serial hq, ← hnext]
      exact builderByte_serial hq
    have hplace := (h.next_byte h7).trans (congrArg (8 * ·) hbyte.symm)
    exact ⟨rfl, hplace, h.phase, hnext.trans_le (by omega), fun hn => absurd hq hn⟩
  · rw [he]
    have hplace : p + 1 = 8 * 7 := by rw [h.next_byte h7, builderByte_serial hq, h5]; rfl
    exact ⟨rfl, hplace, nofun, Nat.zero_le 5, fun _ => rfl⟩
  · rw [he]
    exact ⟨rfl, { h.next_bit h7 with }⟩
  · have hplace := h.next_byte h7
    rw [builderByte_crc hq] at hplace
    omega
  · exact absurd hq h.phase

/-- At the last bit of the record the builder answers FINISHED, is at the start of a record again, and has published the family
code (R184). -/
theorem romUpdate_completes (h : BuilderAt s 63) (b : Bool) :
    (romUpdate b s).1 = .finished ∧ RomAtStart (romUpdate b s).2 ∧
      (romUpdate b s).2.familyOut = (romUpdate b s).2.romFamily := by
  have hplace := h.place
  have hbit := s.romBit.isLt
  have hbyte := h.byte_bound
  have hcrc : s.romPhase = .crc := by
    cases hq : s.romPhase with
    | family => rw [builderByte_family hq] at hplace; omega
    | serial => rw [builderByte_serial hq] at hplace; omega
    | crc => rfl
    | reserved => exact absurd hq h.phase
  have hlast : s.romBit.toNat = 7 := by rw [builderByte_crc hcrc] at hplace; omega
  have h7 : s.romBit = lastBit := BitVec.eq_of_toNat_eq hlast
  rw [romUpdate_crc hcrc, romCrcUpdate, if_pos h7]
  exact ⟨rfl, ⟨rfl, rfl, h.byte_zero (by simp [hcrc])⟩, rfl⟩

/-- The builder inserts the sample in one byte of the record and leaves the others (R181). -/
theorem recordByte_romUpdate (h : BuilderAt s p) (b : Bool) {i : Nat} (hi : i < 8) :
    recordByte (romUpdate b s).2 i =
      if i = builderByte s then setBit (recordByte s i) s.romBit b else recordByte s i := by
  have hbound := h.byte_bound
  cases hq : s.romPhase with
  | family =>
    have hrec : recordByte (romUpdate b s).2 i = recordByte { s with romFamily := setBit s.romFamily s.romBit b } i := by
      rw [romUpdate_family hq, romFamilyUpdate]; split <;> rfl
    rw [hrec, builderByte_family hq]
    cases i <;> rfl
  | serial =>
    have hrec : recordByte (romUpdate b s).2 i =
        recordByte { s with romSerial := setSerialBit s.romSerial s.romByte s.romBit b } i := by
      rw [romUpdate_serial hq, romSerialUpdate]
      split
      · split <;> rfl
      · rfl
    rw [hrec, builderByte_serial hq]
    cases i with
    | zero => rfl
    | succ k =>
      simp only [recordByte, setSerialBit_getElem, Nat.add_right_cancel_iff]
      by_cases hk : k < 6
      · simp only [dif_pos hk]
      · simp only [dif_neg hk]
        rw [if_neg (by omega)]
  | crc =>
    have hrec : recordByte (romUpdate b s).2 i = recordByte { s with romCrc := setBit s.romCrc s.romBit b } i := by
      rw [romUpdate_crc hq, romCrcUpdate]; split <;> rfl
    rw [hrec, builderByte_crc hq]
    cases i with
    | zero => rfl
    | succ k =>
      simp only [recordByte]
      by_cases hk : k < 6
      · simp only [dif_pos hk]
        rw [if_neg (by omega)]
      · simp only [dif_neg hk]
        rw [if_pos (by omega)]
  | reserved => exact absurd hq h.phase

/-- The bits of the record after one sample `b` at bit `p`: in the byte of `p` the bits so far, none where `p` begins the byte,
and `b` at its place; in the other bytes the bits they had. -/
theorem recordBit_romUpdate (h : BuilderAt s p) (b : Bool) (hm : m < 64) :
    recordBit (romUpdate b s).2 m =
      if m / 8 = p / 8 then (if p % 8 = 0 then false else recordBit s m) || (b && decide (m = p)) else recordBit s m := by
  have hplace := h.place
  have hbit := s.romBit.isLt
  have hbyte : builderByte s = p / 8 := by omega
  have hidx : s.romBit.toNat = p % 8 := by omega
  have hzero : s.romBit = 0#3 ↔ p % 8 = 0 := by rw [← hidx, ← BitVec.toNat_inj]; rfl
  rw [recordBit, recordByte_romUpdate h b (by omega), hbyte]
  by_cases heq : m / 8 = p / 8
  · have hsame : m % 8 = p % 8 ↔ m = p := by omega
    simp only [if_pos heq, setBit_getLsbD, hidx, hzero, hsame, recordBit]
  · simp only [if_neg heq, recordBit]

/-- The builder has taken the samples `taken`, and `rest` is to come: each byte of the record that it has begun holds the
samples so far, and 0 past them. -/
structure RomTaken (taken rest : List Bool) (t : State) : Prop where
  at_end  : BuilderAt t taken.length
  samples : t.samples = rest
  bits    : ∀ m < 8 * ((taken.length + 7) / 8), m < 64 → recordBit t m = taken.getD m false

/-- The next sample goes to the next bit of the record (R63, R181). -/
theorem recordBit_next (h : RomTaken taken rest t) (b : Bool) (hm : m < 64) (hle : m / 8 ≤ taken.length / 8) :
    recordBit (romUpdate b (doneRd (setTick t))).2 m = (taken ++ [b]).getD m false := by
  have hat : BuilderAt (doneRd (setTick t)) taken.length := { h.at_end with }
  have hold : recordBit (doneRd (setTick t)) m = recordBit t m := rfl
  rw [recordBit_romUpdate hat b hm, hold, getD_append_singleton]
  by_cases heq : m / 8 = taken.length / 8
  · rw [if_pos heq]
    by_cases h0 : taken.length % 8 = 0
    · rw [if_pos h0, List.getD_eq_default _ _ (by omega)]
    · rw [if_neg h0, h.bits m (by omega) hm]
  · have hne : m ≠ taken.length := by rintro rfl; exact heq rfl
    rw [if_neg heq, h.bits m (by omega) hm]
    simp [hne]

/-- A builder step with a tick set and a sample listed is the builder's update on that sample. -/
theorem romStep_listed (h : RomTaken taken (b :: rest) t) :
    romStep (setTick t) =
      .ok ⟨(romUpdate b (doneRd (setTick t))).2, (romUpdate b (doneRd (setTick t))).1, .rd, b⟩ := by
  have hf : romFault (setTick t) = none := romFault_none h.at_end.phase h.at_end.byte_bound
  rw [romStep_tick rfl hf, (doneRd_listed h.samples).1]

theorem romUpdate_samples (b : Bool) (s : State) : (romUpdate b s).2.samples = s.samples := by rw [romUpdate_frame]

/-- A builder step before the record's last bit takes the next sample (R181 to R184). -/
theorem romStep_taken (hlen : taken.length < 63) (h : RomTaken taken (b :: rest) t) :
    ∃ d, romStep (setTick t) = .ok d ∧ d.status = .pending ∧ RomTaken (taken ++ [b]) rest d.state := by
  have hat : BuilderAt (doneRd (setTick t)) taken.length := { h.at_end with }
  obtain ⟨hpending, hnext⟩ := romUpdate_advances hat hlen b
  refine ⟨_, romStep_listed h, hpending, ?_⟩
  constructor
  case at_end => simpa using hnext
  case samples => simp [romUpdate_samples, h.samples]
  case bits =>
    intro m hbegun hm
    rw [List.length_append, List.length_singleton] at hbegun
    exact recordBit_next h b hm (by omega)

/-- Settles O55: 63 PENDING steps, then the last bit of the record. -/
theorem romBuilderReconstructs : Obligations.RomBuilderReconstructs := by
  intro s stream rest hlen hs hphase hbit hbyte
  obtain ⟨taken, b, rfl⟩ : ∃ taken b, stream = taken ++ [b] :=
    ⟨_, _, (List.dropLast_append_getLast (List.ne_nil_of_length_pos (by omega))).symm⟩
  have hlen : taken.length = 63 := by simpa using hlen
  have hstart : RomTaken [] (taken ++ b :: rest) s :=
    ⟨builderAt_start hphase hbit hbyte, by simpa using hs, fun m hm => by simp at hm⟩
  obtain ⟨t, hcalls, h⟩ := calls_pending (fun _ _ _ _ => romStep_taken) hlen.le hstart
  have hat : BuilderAt (doneRd (setTick t)) 63 := hlen ▸ { h.at_end with }
  obtain ⟨hfinished, ⟨hp, hbit0, hbyte0⟩, hout⟩ := romUpdate_completes hat b
  have hlast := calls_one (romStep_listed h)
  rw [hfinished] at hlast
  have hbits (m : Nat) (hm : m < 64) := recordBit_next h b hm (by omega)
  rw [hlen] at hcalls
  refine ⟨_, calls_append hcalls hlast, fun j hj => ?_, fun k hk j hj => ?_, fun j hj => ?_, hp, hbit0, hbyte0, hout, ?_⟩
  · rw [← hbits j (by omega), recordBit, Nat.div_eq_of_lt hj, Nat.mod_eq_of_lt hj]
    rfl
  · have hdiv : (8 + 8 * k + j) / 8 = k + 1 := by omega
    have hmod : (8 + 8 * k + j) % 8 = j := by omega
    rw [← hbits (8 + 8 * k + j) (by omega), recordBit, hdiv, hmod, recordByte, dif_pos hk]
  · have hdiv : (56 + j) / 8 = 7 := by omega
    have hmod : (56 + j) % 8 = j := by omega
    rw [← hbits (56 + j) (by omega), recordBit, hdiv, hmod]
    rfl
  · simp [romUpdate_samples, h.samples]

end Sys2Proof.Machine
end

section
/-! SUPPORT. The transaction as a whole: the eight calls that write the code, the calls that read the reply sample by sample, and
the call that ends it (R210 to R213). -/

namespace Sys2Proof.Machine

variable {s t : State} {opc : Byte} {d : SubDone} {k n : Nat} {b : Bool} {taken rest : List Bool}

/-! ## The conversion-ready poll on one sample -/

/-- Settles O36: the row runs one transaction step with its code, which is the poll's update on the sample. -/
theorem convertReplyPoll : Obligations.ConvertReplyPoll := by
  intro s hi ht hr
  dsimp only
  rw [exec_lineCode rfl, runTxn_tick hi ht (txnStep_ready ht hr rfl), doneRd_eq]
  cases lineLevel s with
  | false => rfl
  | true => rfl

/-- A busy sample leaves the poll as it is (R213). -/
theorem txnStep_busy (hr : s.txnState = .reading) (hc : opc = s.cfg.opcConvertT) (h : s.samples = false :: rest) :
    txnStep opc (setTick s) = .ok ⟨doneRd (setTick s), .pending, .rd, false⟩ := by
  rw [txnStep_ready (s := setTick s) rfl hr hc, (doneRd_listed h).1]
  rfl

/-- The first ready sample ends the transaction (R213). -/
theorem txnStep_ready_sample (hr : s.txnState = .reading) (hc : opc = s.cfg.opcConvertT) (h : s.samples = true :: rest) :
    txnStep opc (setTick s) = .ok ⟨{ doneRd (setTick s) with txnState := .writing }, .finished, .rd, true⟩ := by
  rw [txnStep_ready (s := setTick s) rfl hr hc, (doneRd_listed h).1]
  rfl

/-! ## Writing the code -/

/-- The slot at the mask of bit `k` sends bit `k` of the code (R61, R150). -/
theorem doneWrite_sends_bit (hm : s.encMask = BitVec.twoPow 8 k) (hk : k < 8) :
    doneWrite opc (setTick s) =
      { s with tickFlag := false, owDriveLow := false, busTrace := s.busTrace ++ [bitEvent opc k] } := by
  have hbit : maskedBit opc (setTick s).encMask = opc.getLsbD k := hm ▸ maskedBit_twoPow hk
  rw [doneWrite_eq, hbit]
  rfl

/-- Before the last bit of the code a call in WRITING sends one bit and moves the mask to the next (R150, R210). -/
theorem txnStep_sends_bit (hw : s.txnState = .writing) (hm : s.encMask = BitVec.twoPow 8 k) (hk : k < 7) :
    txnStep opc (setTick s) = .ok
      ⟨{ s with
          tickFlag := false, owDriveLow := false, busTrace := s.busTrace ++ [bitEvent opc k]
          encMask := BitVec.twoPow 8 (k + 1) }, .pending, writeSlot opc (setTick s), false⟩ := by
  have hone : isOneHot (setTick s).encMask = true := hm ▸ isOneHot_twoPow k (by omega)
  have h8 : (setTick s).encMask ≠ 0x80#8 := hm ▸ twoPow_ne_last k hk
  have hnext : (setTick s).encMask <<< 1 = BitVec.twoPow 8 (k + 1) := by
    rw [setTick_encMask, hm, BitVec.twoPow_eq, BitVec.twoPow_eq, BitVec.shiftLeft_add]
  rw [txnStep_writing (s := setTick s) rfl hw hone, if_neg h8, hnext, doneWrite_sends_bit hm (by omega)]

/-- At the last bit the mask is at its first bit again, and the transaction goes to READING (R150, R210). -/
theorem txnStep_sends_last (hw : s.txnState = .writing) (hm : s.encMask = BitVec.twoPow 8 7) :
    txnStep opc (setTick s) = .ok
      ⟨{ s with
          tickFlag := false, owDriveLow := false, busTrace := s.busTrace ++ [bitEvent opc 7]
          encMask := 0x01#8, txnState := .reading }, .pending, writeSlot opc (setTick s), false⟩ := by
  have hone : isOneHot (setTick s).encMask = true := hm ▸ isOneHot_twoPow 7 (by decide)
  have h8 : (setTick s).encMask = 0x80#8 := hm
  rw [txnStep_writing (s := setTick s) rfl hw hone, if_pos h8, doneWrite_sends_bit hm (by decide)]

/-- Up to seven calls in WRITING send that many bits of the code, and leave the mask at the next bit. -/
theorem calls_txnStep_bits (opc : Byte) (hw : s.txnState = .writing) (hm : s.encMask = 0x01#8) (hk : k ≤ 7) :
    ∃ tick low, calls (txnStep opc) k s = .ok (List.replicate k .pending,
      { s with
        tickFlag := tick, owDriveLow := low, busTrace := s.busTrace ++ (List.range k).map (bitEvent opc)
        encMask := BitVec.twoPow 8 k }) := by
  induction k with
  | zero =>
    have hfirst : BitVec.twoPow 8 0 = s.encMask := hm.symm
    exact ⟨s.tickFlag, s.owDriveLow, by simp [calls, hfirst]⟩
  | succ k ih =>
    obtain ⟨tick, low, hcalls⟩ := ih (by omega)
    have hall := calls_append hcalls (calls_one (txnStep_sends_bit hw rfl (by omega)))
    rw [List.replicate_succ', List.range_succ, List.map_append, ← List.append_assoc]
    exact ⟨false, false, hall⟩

/-- The state after a transaction's eight calls in WRITING: the code is on the wire, and the reply comes next (R210). -/
def codeSent (opc : Byte) (s : State) : State :=
  { s with
    tickFlag := false, owDriveLow := false, busTrace := s.busTrace ++ codeSlots opc, txnState := .reading }

/-- A transaction's eight calls in WRITING send its code (R210, R212). -/
theorem calls_txnStep_code (opc : Byte) (hw : s.txnState = .writing) (hm : s.encMask = 0x01#8) :
    calls (txnStep opc) 8 s = .ok (List.replicate 8 .pending, codeSent opc s) := by
  obtain ⟨tick, low, hcalls⟩ := calls_txnStep_bits opc hw hm le_rfl
  have hall := calls_append hcalls (calls_one (txnStep_sends_last hw rfl))
  rw [List.append_assoc, ← hm] at hall
  exact hall

/-! ## Reading the reply -/

/-- From `s` the transaction with code `opc` has read the samples `taken` of its reply, and `rest` is to come. -/
structure Replied (opc : Byte) (s : State) (taken rest : List Bool) (t : State) : Prop where
  trace   : t.busTrace = s.busTrace ++ taken.map .rd
  samples : t.samples = rest
  cfg     : t.cfg = s.cfg
  mask    : t.encMask = s.encMask
  /-- Only READ ROM runs the ROM builder (R180). -/
  rom     : opc ≠ s.cfg.opcReadRom → RomAtStart s → RomAtStart t
  /-- Only READ SCRATCHPAD runs the accumulator (R180). -/
  sp      : opc ≠ s.cfg.opcReadScratchpad → t.spIdx = s.spIdx

theorem replied_start (hs : s.samples = rest) : Replied opc s [] rest s where
  trace := (List.append_nil _).symm
  samples := hs
  cfg := rfl
  mask := rfl
  rom := fun _ => id
  sp := fun _ => rfl

/-- An RD slot on a listed sample reads it, and writes none of the registers of a reply. -/
theorem Replied.doneRd (h : Replied opc s taken (b :: rest) t) :
    Replied opc s (taken ++ [b]) rest (doneRd (setTick t)) := by
  rw [(doneRd_listed h.samples).2]
  exact { h with
    trace := by simp [h.trace]
    samples := rfl }

/-- A step in READING keeps the transaction there as long as it answers PENDING (R211, R213). -/
theorem txnStep_txnState (hr : s.txnState = .reading) (hd : txnStep opc s = .ok d) :
    d.state.txnState = if d.status = .pending then .reading else .writing := by
  obtain ⟨-, ⟨hw, -, -⟩ | ⟨-, -, rfl⟩ | ⟨-, -, -, -, rfl⟩ | ⟨-, -, -, -, -, rfl⟩ | ⟨-, -, -, -, -, rfl⟩ |
    ⟨-, -, -, -, rfl⟩⟩ := txnStep_inv hd
  · cases hr.symm.trans hw
  · cases hb : lineLevel s
    · exact hr
    · rfl
  · dsimp only
    split
    · rw [romUpdate_frame]
      exact hr
    · rfl
  · exact hr
  · rfl
  · rfl

/-- A step in READING reads the next sample of the reply, unless it finishes with another slot (R211). -/
theorem Replied.next (h : Replied opc s taken (b :: rest) t) (hr : t.txnState = .reading)
    (hd : txnStep opc (setTick t) = .ok d) (hslot : d.status = .finished → d.slot = .rd) :
    Replied opc s (taken ++ [b]) rest d.state := by
  have hrd := h.doneRd
  obtain ⟨-, ⟨hw, -, -⟩ | ⟨-, -, rfl⟩ | ⟨-, -, ho, -, rfl⟩ | ⟨-, -, -, ho, -, rfl⟩ | ⟨-, -, -, -, -, rfl⟩ |
    ⟨-, -, -, -, rfl⟩⟩ := txnStep_inv hd
  · cases hr.symm.trans hw
  · dsimp only
    rw [readyUpdate_frame]
    exact { hrd with }
  · have hrom : opc = s.cfg.opcReadRom := by rw [← h.cfg]; exact ho
    dsimp only
    rw [romUpdate_frame]
    split <;> exact { hrd with rom := fun hn => absurd hrom hn }
  · have hsp : opc = s.cfg.opcReadScratchpad := by rw [← h.cfg]; exact ho
    exact { hrd with sp := fun hn => absurd hsp hn }
  · cases hslot rfl
  · exact { hrd with }

/-- The reply of a transaction has ended, with the events `events` on the wire: the transaction is back in WRITING, and the
machines below it are at their start (R212). -/
structure ReplyEnded (s : State) (events : List BusEvent) (rest : List Bool) (t : State) : Prop where
  trace   : t.busTrace = s.busTrace ++ events
  samples : t.samples = rest
  writing : t.txnState = .writing
  mask    : t.encMask = s.encMask
  rom     : RomAtStart t
  sp      : t.spIdx = 0#4

/-- A finishing RD slot ends the reply with the sample it reads. -/
theorem Replied.ended (h : Replied opc s taken (b :: rest) t) (hr : t.txnState = .reading)
    (hd : txnStep opc (setTick t) = .ok d) (hf : d.status = .finished) (hslot : d.slot = .rd)
    (hrom : RomAtStart d.state) (hsp : d.state.spIdx = 0#4) :
    ReplyEnded s ((taken ++ [b]).map .rd) rest d.state :=
  have hnext := h.next hr hd fun _ => hslot
  ⟨hnext.trace, hnext.samples, by simp [txnStep_txnState (s := setTick t) hr hd, hf], hnext.mask, hrom, hsp⟩

/-- While the samples are busy the poll answers PENDING and the transaction stays in READING (R213). -/
theorem calls_busy (hr : s.txnState = .reading) (n : Nat) (h : s.samples = List.replicate n false ++ rest) :
    ∃ t, calls (txnStep s.cfg.opcConvertT) n s = .ok (List.replicate n .pending, t) ∧ t.txnState = .reading ∧
      Replied s.cfg.opcConvertT s (List.replicate n false) rest t := by
  induction n generalizing rest with
  | zero => exact ⟨s, rfl, hr, replied_start h⟩
  | succ n ih =>
    rw [List.replicate_succ', List.append_assoc] at h
    obtain ⟨t, hcalls, htr, ht⟩ := ih h
    have hbusy := txnStep_busy htr (congrArg Config.opcConvertT ht.cfg.symm) ht.samples
    rw [List.replicate_succ', List.replicate_succ']
    exact ⟨_, calls_append hcalls (calls_one hbusy), htr, ht.doneRd⟩

/-- Settles O59, by `calls_busy`, the induction on the number of busy samples. -/
theorem readyPollHangsOnBusy : Obligations.ReadyPollHangsOnBusy := by
  intro n s rest h hr
  obtain ⟨t, hcalls, htr, ht⟩ := calls_busy hr n h
  exact ⟨t, hcalls, htr, ht.samples⟩

/-- The reply of CONVERT T ends at the first ready sample (R212, R213). -/
theorem calls_convertT_reply (hw : s.cfg.wellFormed = true) (hr : s.txnState = .reading) (hrom : RomAtStart s)
    (hsp : s.spIdx = 0#4) (n : Nat) (h : s.samples = List.replicate n false ++ true :: rest) :
    ∃ t, calls (txnStep s.cfg.opcConvertT) (n + 1) s = .ok (List.replicate n .pending ++ [.finished], t) ∧
      ReplyEnded s ((List.replicate n false ++ [true]).map .rd) rest t := by
  obtain ⟨hrc, -, hcs⟩ := Config.wellFormed_ne hw
  obtain ⟨t, hcalls, htr, ht⟩ := calls_busy hr n h
  have hlast := txnStep_ready_sample htr (congrArg Config.opcConvertT ht.cfg.symm) ht.samples
  have hnext := ht.next htr hlast fun _ => rfl
  exact ⟨_, calls_append hcalls (calls_one hlast), ht.ended htr hlast rfl rfl (hnext.rom hrc.symm hrom)
    ((hnext.sp hcs).trans hsp)⟩

/-- A code with a reply decoder runs one step of it in READING, and returns to WRITING unless that is PENDING (R211). -/
theorem txnStep_of_decStep (hr : s.txnState = .reading) (hc : opc ≠ s.cfg.opcConvertT) (hd : decStep opc s = .ok d) :
    txnStep opc s =
      .ok { d with state := if d.status = .pending then d.state else { d.state with txnState := .writing } } := by
  simp [txnStep, hr, txnRead, hc, hd]

theorem decStep_readRom (ho : opc = s.cfg.opcReadRom) : decStep opc s = romStep s := if_pos ho

theorem decStep_readScratchpad (hw : s.cfg.wellFormed = true) (ho : opc = s.cfg.opcReadScratchpad) :
    decStep opc s = spStep s := by
  obtain ⟨-, hrs, -⟩ := Config.wellFormed_ne hw
  rw [decStep, if_neg (ho ▸ hrs.symm), if_pos ho]

/-- Where the code's decoder takes each of the first `n` samples in one PENDING step that carries `Q` on, so does the
transaction. -/
theorem calls_reply {Q : List Bool → List Bool → State → Prop} {stream : List Bool} (hc : opc ≠ s.cfg.opcConvertT)
    (hstep : ∀ taken b rest t, t.cfg = s.cfg → taken.length < n → Q taken (b :: rest) t →
      ∃ d, decStep opc (setTick t) = .ok d ∧ d.status = .pending ∧ Q (taken ++ [b]) rest d.state)
    (hr : s.txnState = .reading) (hlen : stream.length ≤ n) (hs : s.samples = stream ++ rest)
    (h0 : Q [] (stream ++ rest) s) :
    ∃ t, calls (txnStep opc) stream.length s = .ok (List.replicate stream.length .pending, t) ∧
      t.txnState = .reading ∧ Replied opc s stream rest t ∧ Q stream rest t := by
  refine calls_pending (P := fun taken rest t => t.txnState = .reading ∧ Replied opc s taken rest t ∧ Q taken rest t)
    ?_ hlen ⟨hr, replied_start hs, h0⟩
  rintro taken b rest t htaken ⟨htr, ht, hq⟩
  obtain ⟨d, hd, hpending, hnext⟩ := hstep taken b rest t ht.cfg htaken hq
  have htxn := txnStep_of_decStep (s := setTick t) htr (ht.cfg ▸ hc) hd
  rw [if_pos hpending] at htxn
  refine ⟨d, htxn, hpending, ?_, ht.next htr htxn (fun hf => nomatch hpending.symm.trans hf), hnext⟩
  rw [txnStep_txnState (s := setTick t) htr htxn, if_pos hpending]

theorem romTaken_start (hrom : RomAtStart s) (hs : s.samples = rest) : RomTaken [] rest s where
  at_end := have ⟨hphase, hbit, hbyte⟩ := hrom; builderAt_start hphase hbit hbyte
  samples := hs
  bits := fun m hm => by simp at hm

/-- The reply of READ ROM ends with the 64th sample (R184, R212). -/
theorem calls_readRom_reply {stream : List Bool} (hw : s.cfg.wellFormed = true) (hr : s.txnState = .reading)
    (hrom : RomAtStart s) (hsp : s.spIdx = 0#4) (hlen : stream.length = 64) (h : s.samples = stream ++ rest) :
    ∃ t, calls (txnStep s.cfg.opcReadRom) 64 s = .ok (List.replicate 63 .pending ++ [.finished], t) ∧
      ReplyEnded s (stream.map .rd) rest t := by
  obtain ⟨hrc, hrs, -⟩ := Config.wellFormed_ne hw
  obtain ⟨taken, b, rfl⟩ : ∃ taken b, stream = taken ++ [b] :=
    ⟨_, _, (List.dropLast_append_getLast (List.ne_nil_of_length_pos (by omega))).symm⟩
  have htaken : taken.length = 63 := by simpa using hlen
  have hs : s.samples = taken ++ b :: rest := by simpa using h
  have hdec (t : State) (hcfg : t.cfg = s.cfg) : decStep s.cfg.opcReadRom (setTick t) = romStep (setTick t) :=
    decStep_readRom (s := setTick t) (congrArg Config.opcReadRom hcfg.symm)
  obtain ⟨t, hcalls, htr, ht, hq⟩ := calls_reply hrc
    (fun _ _ _ t hcfg hlt hq => hdec t hcfg ▸ romStep_taken hlt hq) hr htaken.le hs (romTaken_start hrom hs)
  have hat : BuilderAt (doneRd (setTick t)) 63 := htaken ▸ { hq.at_end with }
  obtain ⟨hfinished, hatStart, -⟩ := romUpdate_completes hat b
  have hlast := txnStep_of_decStep (s := setTick t) htr (ht.cfg ▸ hrc) ((hdec t ht.cfg).trans (romStep_listed hq))
  rw [hfinished] at hlast
  have hnext := ht.next htr hlast fun _ => rfl
  rw [htaken] at hcalls
  exact ⟨_, calls_append hcalls (calls_one hlast),
    ht.ended htr hlast rfl rfl hatStart ((hnext.sp hrs).trans hsp)⟩

/-- The reply of READ SCRATCHPAD is 15 samples and the terminating reset (R187, R212). -/
theorem calls_readScratchpad_reply {stream : List Bool} (hw : s.cfg.wellFormed = true) (hr : s.txnState = .reading)
    (hrom : RomAtStart s) (hsp : s.spIdx = 0#4) (hlen : stream.length = 15) (h : s.samples = stream ++ rest) :
    ∃ t, calls (txnStep s.cfg.opcReadScratchpad) 16 s = .ok (List.replicate 15 .pending ++ [.finished], t) ∧
      ReplyEnded s (stream.map .rd ++ [.rst]) rest t := by
  obtain ⟨-, hrs, hcs⟩ := Config.wellFormed_ne hw
  have hdec (t : State) (hcfg : t.cfg = s.cfg) : decStep s.cfg.opcReadScratchpad (setTick t) = spStep (setTick t) :=
    decStep_readScratchpad (s := setTick t) (hcfg ▸ hw) (congrArg Config.opcReadScratchpad hcfg.symm)
  obtain ⟨t, hcalls, htr, ht, hq⟩ := calls_reply hcs.symm
    (fun _ _ _ t hcfg hlt hq => hdec t hcfg ▸ spStep_collected hlt hq) hr hlen.le h (collected_start hsp h)
  have hidx : (setTick t).spIdx = spBits := BitVec.eq_of_toNat_eq (hq.index.trans hlen)
  have hlast := txnStep_of_decStep (s := setTick t) htr (ht.cfg ▸ hcs.symm)
    ((hdec t ht.cfg).trans (spStep_terminate rfl hidx))
  rw [hlen] at hcalls
  refine ⟨_, calls_append hcalls (calls_one hlast), ?_⟩
  exact {
    trace := by simp [spTerminate, ht.trace]
    samples := ht.samples
    writing := rfl
    mask := ht.mask
    rom := ht.rom hrs.symm hrom
    sp := rfl }

/-! ## The transaction -/

/-- A transaction is the eight calls of its code and the calls of its reply (R212). -/
theorem calls_transaction {events : List BusEvent} (hw : s.txnState = .writing) (hm : s.encMask = 0x01#8)
    (hreply : ∃ t, calls (txnStep opc) (n + 1) (codeSent opc s) = .ok (List.replicate n .pending ++ [.finished], t) ∧
      ReplyEnded (codeSent opc s) events rest t) :
    ∃ t, calls (txnStep opc) (8 + (n + 1)) s = .ok (List.replicate (8 + n) .pending ++ [.finished], t) ∧
      t.busTrace = s.busTrace ++ codeSlots opc ++ events ∧ t.txnState = .writing ∧ t.encMask = 0x01#8 ∧
      t.romPhase = .family ∧ t.romBit = 0#3 ∧ t.romByte = 0#3 ∧ t.spIdx = 0#4 ∧ t.samples = rest := by
  obtain ⟨t, hcalls, ht⟩ := hreply
  obtain ⟨hphase, hbit, hbyte⟩ := ht.rom
  rw [List.replicate_add, List.append_assoc]
  exact ⟨t, calls_append (calls_txnStep_code opc hw hm) hcalls, ht.trace, ht.writing, ht.mask.trans hm, hphase, hbit,
    hbyte, ht.sp, ht.samples⟩

/-- Settles O57: each of the three is its code and its reply. -/
theorem transactionLengths : Obligations.TransactionLengths := by
  intro s hw hwr hm hphase hbit hbyte hsp ends
  have hrom (opc : Byte) : RomAtStart (codeSent opc s) := ⟨hphase, hbit, hbyte⟩
  refine ⟨fun stream rest hlen hs => ?_, fun k rest hk hs => ?_, fun stream rest hlen hs => ?_⟩
  · exact calls_transaction hwr hm
      (calls_readRom_reply (s := codeSent s.cfg.opcReadRom s) hw rfl (hrom _) hsp hlen hs)
  · obtain ⟨n, rfl⟩ := Nat.exists_eq_add_of_le' hk
    have hcount : 7 + (n + 1) = 8 + n := by omega
    rw [readyBits, List.append_assoc] at hs
    rw [hcount]
    exact calls_transaction hwr hm
      (calls_convertT_reply (s := codeSent s.cfg.opcConvertT s) hw rfl (hrom _) hsp n hs)
  · rw [List.append_assoc (s.busTrace ++ codeSlots _)]
    exact calls_transaction hwr hm
      (calls_readScratchpad_reply (s := codeSent s.cfg.opcReadScratchpad s) hw rfl (hrom _) hsp hlen hs)

end Sys2Proof.Machine
end

section
/-! SUPPORT. STEP by the four things it can do: recover from the invalid state, be idle, take its case of MASTER_RESET, or run
one step of the transaction that the sequencer's state selects and answer with what comes of it (R230 to R236). -/

namespace Sys2Proof.Machine

variable {s t u : State} {opc : Byte} {d : SubDone}

theorem selOpc_of_readRom (hq : s.seqState = .masterReadRom) : selOpc s = some s.cfg.opcReadRom := by
  rw [selOpc, hq]

theorem selOpc_of_trigger (hq : s.seqState = .masterTxFnCommand) (hc : s.convTriggered = false) :
    selOpc s = some s.cfg.opcConvertT := by
  simp [selOpc, hq, hc]

theorem selOpc_of_readBack (hq : s.seqState = .masterTxFnCommand) (hc : s.convTriggered = true) :
    selOpc s = some s.cfg.opcReadScratchpad := by
  simp [selOpc, hq, hc]

/-- What the sequencer makes of the state `u` in which its transaction has finished, with the status it reports: it goes on to
the function command (R233), to the second cycle (R234), or to the end of the round (R235). -/
def seqAdvance (u : State) : Status × State :=
  if u.seqState = .masterReadRom then (.pending, { u with seqState := .masterTxFnCommand })
  else if u.convTriggered then (.finished, publishTemp u)
  else (.pending, { markConvTriggered u with seqState := .masterReset })

theorem seqAdvance_readRom (hq : u.seqState = .masterReadRom) :
    seqAdvance u = (.pending, { u with seqState := .masterTxFnCommand }) := if_pos hq

theorem seqAdvance_trigger (hq : u.seqState = .masterTxFnCommand) (hc : u.convTriggered = false) :
    seqAdvance u = (.pending, { markConvTriggered u with seqState := .masterReset }) := by
  simp [seqAdvance, hq, hc]

theorem seqAdvance_readBack (hq : u.seqState = .masterTxFnCommand) (hc : u.convTriggered = true) :
    seqAdvance u = (.finished, publishTemp u) := by
  simp [seqAdvance, hq, hc]

/-- What a STEP makes of the transaction step `d` it has run. -/
def txnAnswer (d : SubDone) : State :=
  if d.status = .finished then respondOk (seqAdvance d.state).1 d.slot d.sample 0#16 (seqAdvance d.state).2
  else respondOk .pending d.slot d.sample 0#16 d.state

theorem txnAnswer_finished (hf : d.status = .finished) :
    txnAnswer d = respondOk (seqAdvance d.state).1 d.slot d.sample 0#16 (seqAdvance d.state).2 := if_pos hf

theorem txnAnswer_unfinished (hf : d.status ≠ .finished) : txnAnswer d = respondOk .pending d.slot d.sample 0#16 d.state :=
  if_neg hf

theorem txnStep_convTriggered (hd : txnStep opc s = .ok d) : d.state.convTriggered = s.convTriggered := by
  rw [txnStep_frame hd]

theorem seqReadRom_eq (hq : s.seqState = .masterReadRom) (hd : txnStep s.cfg.opcReadRom s = .ok d) :
    seqReadRom s = .ok (txnAnswer d) := by
  have hadv := seqAdvance_readRom ((txnStep_seqState hd).trans hq)
  rw [seqReadRom, hd, txnAnswer, hadv]
  dsimp only
  split <;> rfl

theorem seqTrigger_eq (hq : s.seqState = .masterTxFnCommand) (hc : s.convTriggered = false)
    (hd : txnStep s.cfg.opcConvertT s = .ok d) : seqTrigger s = .ok (txnAnswer d) := by
  have hadv := seqAdvance_trigger ((txnStep_seqState hd).trans hq) ((txnStep_convTriggered hd).trans hc)
  rw [seqTrigger, hd, txnAnswer, hadv]
  dsimp only
  split <;> rfl

theorem seqReadBack_eq (hq : s.seqState = .masterTxFnCommand) (hc : s.convTriggered = true)
    (hd : txnStep s.cfg.opcReadScratchpad s = .ok d) : seqReadBack s = .ok (txnAnswer d) := by
  have hadv := seqAdvance_readBack ((txnStep_seqState hd).trans hq) ((txnStep_convTriggered hd).trans hc)
  rw [seqReadBack, hd, txnAnswer, hadv]
  dsimp only
  split <;> rfl

/-- A progressing STEP that selects a code answers with what comes of one transaction step with that code (R231). -/
theorem execStep_txn (hi : s.initialised = true) (ht : s.tickFlag = true) (ho : selOpc s = some opc)
    (hd : txnStep opc s = .ok d) : exec .step s = .next (txnAnswer d) := by
  cases hq : s.seqState with
  | masterReset => simp [selOpc, hq] at ho
  | masterReadRom =>
    cases ho.symm.trans (selOpc_of_readRom hq)
    rw [execStep_readRom hi ht hq, seqReadRom_eq hq hd, outcomeOf]
  | masterTxFnCommand =>
    cases hc : s.convTriggered with
    | false =>
      cases ho.symm.trans (selOpc_of_trigger hq hc)
      rw [execStep_trigger hi ht hq hc, seqTrigger_eq hq hc hd, outcomeOf]
    | true =>
      cases ho.symm.trans (selOpc_of_readBack hq hc)
      rw [execStep_readBack hi ht hq hc, seqReadBack_eq hq hc hd, outcomeOf]
  | invalid => simp [selOpc, hq] at ho

/-- Everything a STEP can do when it completes. -/
theorem execStep_cases (h : exec .step s = .next t) :
    (s.seqState = .invalid ∧ t = raiseError .invalidState .none false s) ∨
    (s.seqState ≠ .invalid ∧ s.tickFlag = false ∧ t = respondOk .pending .none false 0#16 s) ∨
    (s.tickFlag = true ∧ s.seqState = .masterReset ∧ seqReset s = .ok t) ∨
    (s.tickFlag = true ∧ ∃ opc d, selOpc s = some opc ∧ txnStep opc s = .ok d ∧ t = txnAnswer d) := by
  obtain ⟨hi, hs⟩ := execStep_inv h
  have hanswer {opc : Byte} {d : SubDone} (ht : s.tickFlag = true) (ho : selOpc s = some opc)
      (hd : txnStep opc s = .ok d) : ∃ opc d, selOpc s = some opc ∧ txnStep opc s = .ok d ∧ t = txnAnswer d :=
    ⟨opc, d, ho, hd, Host.Outcome.next.inj (h.symm.trans (execStep_txn hi ht ho hd))⟩
  obtain hcase | hcase | hcase | ⟨ht, hq, hr⟩ | ⟨ht, hq, hc, hr⟩ | ⟨ht, hq, hc, hr⟩ := seqStep_inv hs
  · exact .inl hcase
  · exact .inr (.inl hcase)
  · exact .inr (.inr (.inl hcase))
  · obtain ⟨d, hd, -⟩ := seqReadRom_inv hr
    exact .inr (.inr (.inr ⟨ht, hanswer ht (selOpc_of_readRom hq) hd⟩))
  · obtain ⟨d, hd, -⟩ := seqTrigger_inv hr
    exact .inr (.inr (.inr ⟨ht, hanswer ht (selOpc_of_trigger hq hc) hd⟩))
  · obtain ⟨d, hd, -⟩ := seqReadBack_inv hr
    exact .inr (.inr (.inr ⟨ht, hanswer ht (selOpc_of_readBack hq hc) hd⟩))

end Sys2Proof.Machine
end

section
/-! SUPPORT. Events that leave the transaction alone: the host reads, the idle STEP and the idle code, the recovery from the
invalid state, and the reset pulse (R230, R232, R236, R240, R241). -/

namespace Sys2Proof.Machine

variable {s : State} {opc : Byte}

/-- Settles O18. -/
theorem hostReadsPublished : Obligations.HostReadsPublished :=
  fun _ hi => ⟨whenInitialised_on hi, whenInitialised_on hi⟩

/-- Settles O24. -/
theorem idleStepKeepsState : Obligations.IdleStepKeepsState := fun _ hi hq ht => execStep_idle hi ht hq

/-- Settles O25: the recovery is the control part of a reset. -/
theorem invalidStateRecovers : Obligations.InvalidStateRecovers := fun _ hi hq => execStep_invalid hi hq

/-- With no reset issued MASTER_RESET performs the reset pulse (R232). -/
theorem seqReset_pulse (ht : s.tickFlag = true) (hr : s.resetIssued = false) :
    seqReset s = .ok (respondOk .pending .rst false 0#16 (markResetIssued (doneRst s))) := by
  rw [seqReset, if_neg (by simp [hr]), slotRst_tick ht]

/-- Settles O26. -/
theorem sequencerIssuesResetPulse : Obligations.SequencerIssuesResetPulse := by
  intro s hi ht hq hr
  rw [execStep_reset hi ht hq, seqReset_pulse ht hr, doneRst_eq]
  rfl

/-- A code called without a tick is idle (log entry 8). -/
theorem runTxn_idle (hi : s.initialised = true) (ht : s.tickFlag = false) :
    runTxn opc s = .next (respondOk .pending .none false 0#16 s) := by
  rw [runTxn, whenInitialised_on hi, if_neg (by simp [ht])]

/-- Settles O34: the nine rows all run one transaction step. -/
theorem transactionIdleWithoutTick : Obligations.TransactionIdleWithoutTick :=
  fun _ _ _ hcode hi ht => (exec_lineCode hcode).trans (runTxn_idle hi ht)

end Sys2Proof.Machine
end

section
/-! SUPPORT. A STEP in the states that run a transaction: what it answers, what it sends, and what each state's STEP leaves
unchanged (R231 to R235). -/

namespace Sys2Proof.Machine

variable {s t : State} {opc : Byte} {d : SubDone}

theorem txnStep_responses (hd : txnStep opc s = .ok d) : d.state.responses = s.responses := by rw [txnStep_frame hd]

/-- The READ ROM transaction has no error: its reply has a decoder, and that has none (R233). -/
theorem txnStep_readRom_noError (hd : txnStep s.cfg.opcReadRom s = .ok d) : d.status ≠ .error := by
  obtain ⟨-, ⟨-, -, rfl⟩ | ⟨-, -, rfl⟩ | ⟨-, -, -, -, rfl⟩ | ⟨-, -, -, -, -, rfl⟩ | ⟨-, -, -, -, -, rfl⟩ |
    ⟨-, -, hn, -, -⟩⟩ := txnStep_inv hd
  · exact nofun
  · cases lineLevel s <;> exact nofun
  · obtain ⟨-, -, he⟩ | ⟨-, -, he⟩ | ⟨-, -, he⟩ | ⟨-, -, -, he⟩ | ⟨-, -, -, he⟩ | ⟨-, -, he⟩ | ⟨-, -, he⟩ | ⟨-, he⟩ :=
      romUpdate_cases (lineLevel s) (doneRd s) <;> simp [he]
  · exact nofun
  · exact nofun
  · exact absurd rfl hn

/-- Settles O28: the STEP answers with one READ ROM transaction step, by whether that has finished. -/
theorem stepRunsReadRom : Obligations.StepRunsReadRom := by
  intro s hl hi ht hq
  obtain ⟨d, hd⟩ := txnStep_completes hl ht s.cfg.opcReadRom
  have hseq : d.state.seqState = .masterReadRom := (txnStep_seqState hd).trans hq
  refine ⟨d, hd, txnStep_readRom_noError hd, ?_⟩
  rw [execStep_txn hi ht (selOpc_of_readRom hq) hd, ← txnStep_responses hd]
  by_cases hf : d.status = .finished
  · rw [txnAnswer_finished hf, seqAdvance_readRom hseq, if_pos hf]
    rfl
  · rw [txnAnswer_unfinished hf, if_neg hf, ← hseq]
    rfl

/-- Settles O29: the STEP answers with one CONVERT T transaction step, by whether that has finished. -/
theorem stepRunsTrigger : Obligations.StepRunsTrigger := by
  intro s hl hi ht hq hc
  obtain ⟨d, hd⟩ := txnStep_completes hl ht s.cfg.opcConvertT
  refine ⟨d, hd, ?_⟩
  rw [execStep_txn hi ht (selOpc_of_trigger hq hc) hd, ← txnStep_responses hd]
  by_cases hf : d.status = .finished
  · rw [txnAnswer_finished hf, if_pos hf,
      seqAdvance_trigger ((txnStep_seqState hd).trans hq) ((txnStep_convTriggered hd).trans hc)]
    rfl
  · rw [txnAnswer_unfinished hf, if_neg hf]
    rfl

/-- Settles O30: the STEP answers with one READ SCRATCHPAD transaction step, by whether that has finished. -/
theorem stepRunsReadBack : Obligations.StepRunsReadBack := by
  intro s hl hi ht hq hc
  obtain ⟨d, hd⟩ := txnStep_completes hl ht s.cfg.opcReadScratchpad
  refine ⟨d, hd, ?_⟩
  rw [execStep_txn hi ht (selOpc_of_readBack hq hc) hd, ← txnStep_responses hd]
  by_cases hf : d.status = .finished
  · rw [txnAnswer_finished hf, if_pos hf,
      seqAdvance_readBack ((txnStep_seqState hd).trans hq) ((txnStep_convTriggered hd).trans hc)]
    rfl
  · rw [txnAnswer_unfinished hf, if_neg hf]
    rfl

/-- A progressing STEP in WRITING sends the masked bit of the code it selects (R95, R210). -/
theorem execStep_writing (hi : s.initialised = true) (ht : s.tickFlag = true) (hm : isOneHot s.encMask = true)
    (hw : s.txnState = .writing) (ho : selOpc s = some opc) :
    ∃ t, exec .step s = .next t ∧ t.busTrace = s.busTrace ++ [if maskedBit opc s.encMask then .w1 else .w0] := by
  refine ⟨_, execStep_txn hi ht ho (txnStep_writing ht hw hm), ?_⟩
  rw [txnAnswer_unfinished (by simp), doneWrite_eq]
  dsimp only
  split <;> rfl

/-- Settles O32, by the state that selects the code. -/
theorem sequencerSelectsCode : Obligations.SequencerSelectsCode := by
  intro s opc hi ht hm hw hcase
  have ho : selOpc s = some opc := by
    obtain ⟨hq, rfl⟩ | ⟨hq, hc, rfl⟩ | ⟨hq, hc, rfl⟩ := hcase
    · exact selOpc_of_readRom hq
    · exact selOpc_of_trigger hq hc
    · exact selOpc_of_readBack hq hc
  obtain ⟨t, hstep, htrace⟩ := execStep_writing hi ht hm hw ho
  exact ⟨ho, t, hstep, by simpa [maskedBit] using htrace⟩

/-! ## Frames -/

/-- A READ ROM transaction step writes no register of the scratchpad reply, and no `suspend` (R233). -/
theorem txnStep_readRom_frame (hw : s.cfg.wellFormed = true) (hd : txnStep s.cfg.opcReadRom s = .ok d) :
    d.state = { s with
      tickFlag := false, owDriveLow := false, busTrace := d.state.busTrace
      samples := d.state.samples, lineDraws := d.state.lineDraws
      encMask := d.state.encMask, txnState := d.state.txnState
      romFamily := d.state.romFamily, romSerial := d.state.romSerial, romCrc := d.state.romCrc
      romBit := d.state.romBit, romByte := d.state.romByte, romPhase := d.state.romPhase
      familyOut := d.state.familyOut } := by
  obtain ⟨-, ⟨-, -, rfl⟩ | ⟨-, -, rfl⟩⟩ := txnStep_readRom_inv hw hd
  · dsimp only
    rw [doneWrite_eq]
    split <;> rfl
  · dsimp only
    rw [romUpdate_frame]
    split <;> rfl

/-- A CONVERT T transaction step writes no register of a reply, and no `suspend` (R234). -/
theorem txnStep_convertT_frame (hd : txnStep s.cfg.opcConvertT s = .ok d) :
    d.state = { s with
      tickFlag := false, owDriveLow := false, busTrace := d.state.busTrace
      samples := d.state.samples, lineDraws := d.state.lineDraws
      encMask := d.state.encMask, txnState := d.state.txnState } := by
  obtain ⟨-, ⟨-, -, rfl⟩ | ⟨-, rfl⟩⟩ := txnStep_convertT_inv hd
  · dsimp only
    rw [doneWrite_eq]
    split <;> rfl
  · dsimp only
    rw [readyUpdate_frame]
    rfl

/-- A READ SCRATCHPAD transaction step writes no register of the ROM reply (R235). -/
theorem txnStep_readScratchpad_frame (hw : s.cfg.wellFormed = true) (hd : txnStep s.cfg.opcReadScratchpad s = .ok d) :
    d.state = { s with
      tickFlag := false, owDriveLow := false, suspend := d.state.suspend, busTrace := d.state.busTrace
      samples := d.state.samples, lineDraws := d.state.lineDraws
      encMask := d.state.encMask, txnState := d.state.txnState
      tempAcc := d.state.tempAcc, spIdx := d.state.spIdx } := by
  obtain ⟨-, ⟨-, -, rfl⟩ | ⟨-, -, rfl⟩ | ⟨-, -, rfl⟩⟩ := txnStep_readScratchpad_inv hw hd
  · dsimp only
    rw [doneWrite_eq]
    split <;> rfl
  · rfl
  · rfl

/-- A STEP in MASTER_RESET writes the registers of the presence machine, the cycle's flags and the sequencer's state (R232). -/
theorem seqReset_frame (hr : seqReset s = .ok t) :
    t = { s with
      tickFlag := t.tickFlag, owDriveLow := t.owDriveLow, suspend := t.suspend, busTrace := t.busTrace
      samples := t.samples, lineDraws := t.lineDraws, responses := t.responses
      pdState := t.pdState, pdCount := t.pdCount
      seqState := t.seqState, resetIssued := t.resetIssued, convTriggered := t.convTriggered } := by
  obtain ⟨-, ⟨-, rfl⟩ | ⟨-, -, -, -, rfl⟩ | ⟨-, -, -, -, rfl⟩ | ⟨-, -, -, -, rfl⟩ | ⟨-, -, -, -, rfl⟩⟩ := seqReset_inv hr
  all_goals rfl

/-- Settles O31. An idle STEP keeps every register; a progressing one is its state's case, in which the sequencer adds its own
registers to those that the transaction step writes. -/
theorem stepFrame : Obligations.StepFrame := by
  intro s t hw h
  obtain ⟨hq, -⟩ | ⟨-, -, rfl⟩ | ⟨-, hq, hr⟩ | ⟨-, opc, d, ho, hd, rfl⟩ := execStep_cases h
  · simp [hq]
  · exact ⟨fun _ => rfl, fun _ => rfl, fun _ _ => rfl, fun _ _ => rfl⟩
  · simpa [hq] using seqReset_frame hr
  · have hseq {q : SeqState} (hq : s.seqState = q) : d.state.seqState = q := (txnStep_seqState hd).trans hq
    have hconv {c : Bool} (hc : s.convTriggered = c) : d.state.convTriggered = c := (txnStep_convTriggered hd).trans hc
    refine ⟨fun hq => absurd hq (selOpc_not_reset ho), fun hq => ?_, fun hq hc => ?_, fun hq hc => ?_⟩
    · cases ho.symm.trans (selOpc_of_readRom hq)
      have hframe := txnStep_readRom_frame hw hd
      by_cases hf : d.status = .finished
      · rw [txnAnswer_finished hf, seqAdvance_readRom (hseq hq), hframe]
        rfl
      · rw [txnAnswer_unfinished hf, hframe]
        rfl
    · cases ho.symm.trans (selOpc_of_trigger hq hc)
      have hframe := txnStep_convertT_frame hd
      by_cases hf : d.status = .finished
      · rw [txnAnswer_finished hf, seqAdvance_trigger (hseq hq) (hconv hc), hframe]
        rfl
      · rw [txnAnswer_unfinished hf, hframe]
        rfl
    · cases ho.symm.trans (selOpc_of_readBack hq hc)
      have hframe := txnStep_readScratchpad_frame hw hd
      by_cases hf : d.status = .finished
      · rw [txnAnswer_finished hf, seqAdvance_readBack (hseq hq) (hconv hc), hframe]
        rfl
      · rw [txnAnswer_unfinished hf, hframe]
        rfl

end Sys2Proof.Machine
end

section
/-! SUPPORT. The slot and the response of a STEP: one slot exactly when it progresses, and its status (R237, R238). -/

namespace Sys2Proof.Machine

variable {s t u : State} {opc : Byte} {d : SubDone}

theorem selOpc_not_invalid (ho : selOpc s = some opc) : s.seqState ≠ .invalid := by
  intro hq
  simp [selOpc, hq] at ho

/-- What the sequencer makes of a finished transaction performs no slot of its own. -/
theorem seqAdvance_slotPerformed (h : SlotPerformed s u) : SlotPerformed s (seqAdvance u).2 := by
  unfold seqAdvance
  split
  · exact { h with }
  · split <;> exact { h with }

theorem txnAnswer_slotPerformed (h : SlotPerformed s d.state) : SlotPerformed s (txnAnswer d) := by
  by_cases hf : d.status = .finished
  · rw [txnAnswer_finished hf]
    exact { seqAdvance_slotPerformed h with }
  · rw [txnAnswer_unfinished hf]
    exact { h with }

/-- A STEP performs one slot where a tick is pending in a valid state, and else it performs none and keeps the tick. -/
theorem execStep_slot (h : exec .step s = .next t) :
    s.seqState ≠ .invalid ∧ SlotPerformed s t ∨
    (s.seqState = .invalid ∨ s.tickFlag = false) ∧ t.busTrace = s.busTrace ∧ t.tickFlag = s.tickFlag := by
  obtain ⟨hq, rfl⟩ | ⟨-, ht, rfl⟩ | ⟨-, hq, hr⟩ | ⟨-, opc, d, ho, hd, rfl⟩ := execStep_cases h
  · exact .inr ⟨.inl hq, rfl, rfl⟩
  · exact .inr ⟨.inr ht, rfl, rfl⟩
  · exact .inl ⟨by simp [hq], seqReset_slotPerformed hr⟩
  · exact .inl ⟨selOpc_not_invalid ho, txnAnswer_slotPerformed (txnStep_slotPerformed hd)⟩

/-- Settles O45: the two cases of `execStep_slot` exclude each other. -/
theorem oneSlotPerProgressingStep : Obligations.OneSlotPerProgressingStep := by
  intro s t h
  obtain ⟨hq, k⟩ | ⟨hidle, hkept⟩ := execStep_slot h
  · exact ⟨fun _ => ⟨k.trace, k.consumed⟩, fun hn => absurd ⟨k.tick, hq⟩ hn⟩
  · refine ⟨fun ⟨ht, hq⟩ => ?_, fun _ => hkept⟩
    obtain hinv | hoff := hidle
    · exact absurd hinv hq
    · cases ht.symm.trans hoff

/-- The one response of a STEP that runs a transaction step: FINISHED exactly at the end of a read-back, and never ERROR. -/
theorem txnAnswer_response (ho : selOpc s = some opc) (hd : txnStep opc s = .ok d) :
    ∃ r, (txnAnswer d).responses = s.responses ++ [r] ∧ r.status ≠ .error ∧
      (r.status = .finished ↔
        s.seqState = .masterTxFnCommand ∧ s.convTriggered = true ∧ d.status = .finished) := by
  have hseq := txnStep_seqState hd
  have hconv := txnStep_convTriggered hd
  have hresp := txnStep_responses hd
  by_cases hf : d.status = .finished
  · rw [txnAnswer_finished hf, ← hresp]
    cases hq : s.seqState with
    | masterReset => exact absurd hq (selOpc_not_reset ho)
    | masterReadRom =>
      rw [seqAdvance_readRom (hseq.trans hq)]
      exact ⟨_, rfl, nofun, iff_of_false nofun nofun⟩
    | masterTxFnCommand =>
      cases hc : s.convTriggered with
      | false =>
        rw [seqAdvance_trigger (hseq.trans hq) (hconv.trans hc)]
        exact ⟨_, rfl, nofun, iff_of_false nofun nofun⟩
      | true =>
        rw [seqAdvance_readBack (hseq.trans hq) (hconv.trans hc)]
        exact ⟨_, rfl, nofun, iff_of_true rfl ⟨rfl, rfl, hf⟩⟩
    | invalid => exact absurd hq (selOpc_not_invalid ho)
  · rw [txnAnswer_unfinished hf, ← hresp]
    exact ⟨_, rfl, nofun, iff_of_false nofun fun h => hf h.2.2⟩

/-- A READ SCRATCHPAD transaction step finishes exactly in the step after its 15th bit (R187). -/
theorem txnStep_readScratchpad_finished_iff (hw : s.cfg.wellFormed = true)
    (hd : txnStep s.cfg.opcReadScratchpad s = .ok d) :
    d.status = .finished ↔ s.txnState = .reading ∧ s.spIdx = spBits := by
  obtain ⟨-, ⟨hwr, -, rfl⟩ | ⟨-, hi, rfl⟩ | ⟨hr, hi, rfl⟩⟩ := txnStep_readScratchpad_inv hw hd
  · exact iff_of_false nofun fun h => nomatch hwr.symm.trans h.1
  · exact iff_of_false nofun fun h => hi h.2
  · exact iff_of_true rfl ⟨hr, hi⟩

/-- The one response of a STEP in MASTER_RESET: never FINISHED, and ERROR exactly on the sixth low in a row (R232, R261). -/
theorem seqReset_response (hr : seqReset s = .ok t) :
    ∃ r, t.responses = s.responses ++ [r] ∧ r.status ≠ .finished ∧
      (r.status = .error ↔ s.resetIssued = true ∧ lineLevel s = false ∧ s.pdCount = 5#3) := by
  obtain ⟨-, ⟨hi, rfl⟩ | ⟨hi, -, hb, hc, rfl⟩ | ⟨-, -, -, hc, rfl⟩ | ⟨-, -, hb, -, rfl⟩ | ⟨-, -, hb, -, rfl⟩⟩ :=
    seqReset_inv hr
  · exact ⟨_, rfl, nofun, iff_of_false nofun fun h => by simp [hi] at h⟩
  · exact ⟨_, rfl, nofun, iff_of_true rfl ⟨hi, hb, hc⟩⟩
  · exact ⟨_, rfl, nofun, iff_of_false nofun fun h => hc h.2.2⟩
  · exact ⟨_, rfl, nofun, iff_of_false nofun fun h => by simp [hb] at h⟩
  · exact ⟨_, rfl, nofun, iff_of_false nofun fun h => by simp [hb] at h⟩

/-- Settles O49, by the four things a STEP can do. -/
theorem stepStatusLaw : Obligations.StepStatusLaw := by
  intro s t hw h
  obtain ⟨hq, rfl⟩ | ⟨hq, ht, rfl⟩ | ⟨ht, hq, hr⟩ | ⟨ht, opc, d, ho, hd, rfl⟩ := execStep_cases h
  · exact ⟨_, rfl, by simp [hq], by simp [hq]⟩
  · exact ⟨_, rfl, by simp [ht], by simp [hq, ht]⟩
  · obtain ⟨r, hresp, hfin, herr⟩ := seqReset_response hr
    exact ⟨r, hresp, by simp [hfin, hq], by simp [herr, hq, ht]⟩
  · obtain ⟨r, hresp, herr, hfin⟩ := txnAnswer_response ho hd
    refine ⟨r, hresp, ?_, by simp [herr, selOpc_not_reset ho, selOpc_not_invalid ho]⟩
    simp only [hfin, ht, true_and]
    refine and_congr_right fun hq => and_congr_right fun hc => ?_
    cases ho.symm.trans (selOpc_of_readBack hq hc)
    exact txnStep_readScratchpad_finished_iff hw hd

end Sys2Proof.Machine
end

section
/-! SUPPORT. Calls of a machine in a row: their last call, what every call keeps, and the calls of a transaction as those of its
reply decoder (R211). -/

namespace Sys2Proof.Machine

variable {s t : State} {opc : Byte} {n : Nat} {f g : State → Except Fault SubDone} {P : State → Prop} {l : List Status}

theorem calls_snoc_inv {st : Status} (hlen : l.length = n) (h : calls f (n + 1) s = .ok (l ++ [st], t)) :
    ∃ u d, calls f n s = .ok (l, u) ∧ f (setTick u) = .ok d ∧ d.status = st ∧ d.state = t := by
  obtain ⟨l1, l2, u, hfirst, hlast, hl, hl1⟩ := calls_split h
  obtain ⟨d, hd, rfl, rfl⟩ := calls_one_inv hlast
  obtain ⟨rfl, hst⟩ := List.append_inj hl (hlen.trans hl1.symm)
  exact ⟨u, d, hfirst, hd, (List.singleton_injective hst).symm, rfl⟩

/-- A property that every call keeps holds after any number of calls. -/
theorem calls_keeps (hstep : ∀ u d, P u → f (setTick u) = .ok d → P d.state) (hs : P s)
    (h : calls f n s = .ok (l, t)) : P t := by
  induction n generalizing s l with
  | zero => cases h; exact hs
  | succ n ih =>
    rw [Nat.add_comm] at h
    obtain ⟨l1, l2, u, hfirst, hrest, -, -⟩ := calls_split h
    obtain ⟨d, hd, -, rfl⟩ := calls_one_inv hfirst
    exact ih (hstep s d hs hd) hrest

/-- Where every PENDING call of `g` is a call of `f`, so are PENDING calls in a row. -/
theorem calls_lift (hstep : ∀ u d, P u → g (setTick u) = .ok d → d.status = .pending → f (setTick u) = .ok d ∧ P d.state)
    (hs : P s) (h : calls g n s = .ok (List.replicate n .pending, t)) :
    calls f n s = .ok (List.replicate n .pending, t) ∧ P t := by
  induction n generalizing t with
  | zero => cases h; exact ⟨rfl, hs⟩
  | succ n ih =>
    rw [List.replicate_succ'] at h ⊢
    obtain ⟨u, d, hfirst, hd, hpending, rfl⟩ := calls_snoc_inv List.length_replicate h
    obtain ⟨hf, hu⟩ := ih hfirst
    obtain ⟨hfd, hnext⟩ := hstep u d hu hd hpending
    exact ⟨calls_append hf (hpending ▸ calls_one hfd), hnext⟩

/-- The calls of a reply decoder, up to the one that finishes, as calls of the transaction, which is then back in WRITING. -/
theorem calls_txnStep_of_decoder (hr : s.txnState = .reading) (hc : opc ≠ s.cfg.opcConvertT)
    (hdec : ∀ u, u.cfg = s.cfg → decStep opc u = g u)
    (h : calls g (n + 1) s = .ok (List.replicate n .pending ++ [.finished], t)) :
    calls (txnStep opc) (n + 1) s = .ok (List.replicate n .pending ++ [.finished], { t with txnState := .writing }) := by
  obtain ⟨u, d, hfirst, hd, hfinished, rfl⟩ := calls_snoc_inv List.length_replicate h
  have htxn {v : State} {e : SubDone} (hv : v.txnState = .reading ∧ v.cfg = s.cfg) (he : g (setTick v) = .ok e) :=
    txnStep_of_decStep (s := setTick v) hv.1 (hv.2 ▸ hc) ((hdec (setTick v) hv.2).trans he)
  obtain ⟨hcalls, hu⟩ := calls_lift (f := txnStep opc) (P := fun v => v.txnState = .reading ∧ v.cfg = s.cfg)
    (fun v e hv he hpending => by
      have hstep := htxn hv he
      rw [if_pos hpending] at hstep
      have hreading := txnStep_txnState (s := setTick v) hv.1 hstep
      rw [if_pos hpending] at hreading
      have hcfg : e.state.cfg = v.cfg := by rw [txnStep_frame hstep]; rfl
      exact ⟨hstep, hreading, hcfg.trans hv.2⟩)
    ⟨hr, rfl⟩ hfirst
  have hlast := htxn hu hd
  rw [hfinished] at hlast
  exact calls_append hcalls (calls_one hlast)

end Sys2Proof.Machine
end

section
/-! SUPPORT. What a whole transaction leaves in the registers of its reply: the published family code, and the accumulator's
value (R63, R64, R184, R188). -/

namespace Sys2Proof.Machine

variable {s t : State} {stream rest : List Bool} {l : List Status}

/-- Every register of the transaction is at its reset value (R21). -/
structure TxnAtStart (s : State) : Prop where
  writing : s.txnState = .writing
  mask    : s.encMask = 0x01#8
  rom     : RomAtStart s
  sp      : s.spIdx = 0#4

/-- A byte whose bits are the first samples of a stream is the number they stand for (R62). -/
theorem toNat_eq_streamValue {x : Byte} (h : ∀ j < 8, x.getLsbD j = stream.getD j false) :
    x.toNat = streamValue (stream.take 8) := by
  refine Nat.eq_of_testBit_eq fun j => ?_
  rw [testBit_streamValue, BitVec.testBit_toNat]
  by_cases hj : j < 8
  · rw [h j hj, List.getD_eq_getElem?_getD, List.getD_eq_getElem?_getD, List.getElem?_take_of_lt hj]
  · rw [BitVec.getLsbD_of_ge _ _ (by omega), List.getD_eq_default _ _ (by simp; omega)]

/-- The READ ROM transaction publishes the first eight samples of its reply as the family code. -/
theorem calls_readRom_familyOut (hw : s.cfg.wellFormed = true) (h : TxnAtStart s) (hlen : stream.length = 64)
    (hs : s.samples = stream ++ rest) (hcalls : calls (txnStep s.cfg.opcReadRom) 72 s = .ok (l, t)) :
    t.familyOut.toNat = streamValue (stream.take 8) := by
  obtain ⟨hrc, -, -⟩ := Config.wellFormed_ne hw
  obtain ⟨hphase, hbit, hbyte⟩ := h.rom
  obtain ⟨v, hv, hfamily, -, -, -, -, -, hout, -⟩ :=
    romBuilderReconstructs (codeSent s.cfg.opcReadRom s) stream rest hlen hs hphase hbit hbyte
  have hreply := calls_txnStep_of_decoder (s := codeSent s.cfg.opcReadRom s) (n := 63) rfl hrc
    (fun u hu => decStep_readRom (congrArg Config.opcReadRom hu).symm) hv
  have hall := calls_append (calls_txnStep_code _ h.writing h.mask) hreply
  cases hcalls.symm.trans hall
  exact (congrArg BitVec.toNat hout).trans (toNat_eq_streamValue hfamily)

/-- The READ SCRATCHPAD transaction leaves an accumulator whose shift is the number received, divided by 16. -/
theorem calls_readScratchpad_scaleTemp (hw : s.cfg.wellFormed = true) (h : TxnAtStart s) (hlen : stream.length = 15)
    (hs : s.samples = stream ++ rest) (hcalls : calls (txnStep s.cfg.opcReadScratchpad) 24 s = .ok (l, t)) :
    (scaleTemp t.tempAcc).toNat = streamValue stream / 16 := by
  obtain ⟨-, -, hcs⟩ := Config.wellFormed_ne hw
  obtain ⟨v, hv, -, -, -, -, hscaled, -⟩ :=
    scratchpadAccumulates (codeSent s.cfg.opcReadScratchpad s) stream rest hlen hs h.sp
  have hreply := calls_txnStep_of_decoder (s := codeSent s.cfg.opcReadScratchpad s) (n := 15) rfl hcs.symm
    (fun u hu => decStep_readScratchpad (hu ▸ hw) (congrArg Config.opcReadScratchpad hu).symm) hv
  have hall := calls_append (calls_txnStep_code _ h.writing h.mask) hreply
  cases hcalls.symm.trans hall
  exact hscaled

end Sys2Proof.Machine
end

section
/-! SUPPORT. A transaction step answers alike whatever the responses given so far (log entry 2). -/

namespace Sys2Proof.Machine

variable {s : State} {opc : Byte} {d : SubDone} {rs : List Response} {b : Bool}

/-- The state with other responses given so far. -/
def withResponses (rs : List Response) (s : State) : State := { s with responses := rs }

theorem doneWrite_withResponses : doneWrite opc (withResponses rs s) = withResponses rs (doneWrite opc s) := by
  rw [doneWrite_eq, doneWrite_eq]
  rfl

theorem readyUpdate_withResponses : readyUpdate b (withResponses rs s) = (readyUpdate b s).map id (withResponses rs) := by
  cases b <;> rfl

theorem romUpdate_withResponses : romUpdate b (withResponses rs s) = (romUpdate b s).map id (withResponses rs) := by
  cases hp : s.romPhase with
  | family =>
    rw [romUpdate_family (s := withResponses rs s) hp]
    simp only [romUpdate_family hp, romFamilyUpdate, apply_ite (Prod.map id (withResponses rs))]
    rfl
  | serial =>
    rw [romUpdate_serial (s := withResponses rs s) hp]
    simp only [romUpdate_serial hp, romSerialUpdate, apply_ite (Prod.map id (withResponses rs))]
    rfl
  | crc =>
    rw [romUpdate_crc (s := withResponses rs s) hp]
    simp only [romUpdate_crc hp, romCrcUpdate, apply_ite (Prod.map id (withResponses rs))]
    rfl
  | reserved => simp [romUpdate, hp, withResponses]

/-- A transaction step that completes does so whatever the responses, and keeps them. -/
theorem txnStep_withResponses (hd : txnStep opc s = .ok d) (rs : List Response) :
    txnStep opc (withResponses rs s) = .ok { d with state := withResponses rs d.state } := by
  have hrd : doneRd (withResponses rs s) = withResponses rs (doneRd s) := rfl
  have hlevel : lineLevel (withResponses rs s) = lineLevel s := rfl
  obtain ⟨ht, ⟨hw, hm, rfl⟩ | ⟨hr, ho, rfl⟩ | ⟨hr, hc, ho, hf, rfl⟩ | ⟨hr, hc, hm, ho, hi, rfl⟩ |
    ⟨hr, hc, hm, ho, hi, rfl⟩ | ⟨hr, hc, hm, hs, rfl⟩⟩ := txnStep_inv hd
  · rw [txnStep_writing (s := withResponses rs s) ht hw hm, doneWrite_withResponses, apply_ite (withResponses rs)]
    rfl
  · rw [txnStep_ready (s := withResponses rs s) ht hr ho, hrd, readyUpdate_withResponses]
    rfl
  · rw [txnStep_rom (s := withResponses rs s) ht hr hc ho hf, hrd, hlevel, romUpdate_withResponses,
      apply_ite (withResponses rs)]
    rfl
  · exact txnStep_collect (s := withResponses rs s) ht hr hc hm ho hi
  · exact txnStep_terminate (s := withResponses rs s) ht hr hc hm ho hi
  · exact txnStep_other (s := withResponses rs s) ht hr hc hm hs

theorem seqAdvance_withResponses : seqAdvance (withResponses rs s) = (seqAdvance s).map id (withResponses rs) := by
  simp only [seqAdvance, apply_ite (Prod.map id (withResponses rs))]
  rfl

end Sys2Proof.Machine
end

section
/-! SUPPORT. Runs of TSTEPs, and the calls of a transaction as such a run under the sequencer (R106, R122, R231). -/

namespace Sys2Proof.Machine

variable {s t u : State} {opc : Byte} {d : SubDone} {n : Nat} {sts sts' : List Status} {events events' : List BusEvent}
  {rest rest' : List Bool}

/-- TSTEPs from `s` with the statuses `sts` perform the slots `events`, and leave the samples `rest` in the state `t`. -/
structure Ran (s : State) (sts : List Status) (events : List BusEvent) (rest : List Bool) (t : State) : Prop where
  run         : tsteps sts.length s = .next t
  trace       : t.busTrace = s.busTrace ++ events
  responses   : ∃ rs, t.responses = s.responses ++ rs ∧ rs.map Response.status = sts
  samples     : t.samples = rest
  cfg         : t.cfg = s.cfg
  initialised : t.initialised = true

theorem ran_nil (hi : s.initialised = true) (hs : s.samples = rest) : Ran s [] [] rest s where
  run := rfl
  trace := (List.append_nil _).symm
  responses := ⟨[], (List.append_nil _).symm, rfl⟩
  samples := hs
  cfg := rfl
  initialised := hi

theorem Ran.trans (h : Ran s sts events rest t) (h' : Ran t sts' events' rest' u) :
    Ran s (sts ++ sts') (events ++ events') rest' u where
  run := by rw [List.length_append]; exact tsteps_append h.run h'.run
  trace := by rw [h'.trace, h.trace, List.append_assoc]
  responses := by
    obtain ⟨rs, hrs, hsts⟩ := h.responses
    obtain ⟨rs', hrs', hsts'⟩ := h'.responses
    exact ⟨rs ++ rs', by rw [hrs', hrs, List.append_assoc], by rw [List.map_append, hsts, hsts']⟩
  samples := h'.samples
  cfg := h'.cfg.trans h.cfg
  initialised := h'.initialised

/-- One TSTEP whose STEP performs one slot and gives one response. -/
theorem ran_one {r : Response} {ev : BusEvent} (hi : s.initialised = true)
    (hstep : exec .step (setTick s) = .next (respond r u)) (htrace : u.busTrace = s.busTrace ++ [ev])
    (hresp : u.responses = s.responses) (hsamples : u.samples = rest) (hkept : LaunchKept s u) :
    Ran s [r.status] [ev] rest (respond r u) where
  run := tsteps_one ((tstep_eq hi).trans hstep)
  trace := htrace
  responses := ⟨[r], congrArg (· ++ [r]) hresp, rfl⟩
  samples := hsamples
  cfg := hkept.cfg
  initialised := hkept.initialised hi

/-- The sequencer goes on selecting the code of the transaction it runs. -/
theorem txnStep_selOpc (hd : txnStep opc s = .ok d) : selOpc d.state = selOpc s := by
  rw [txnStep_frame hd]
  rfl

/-- A PENDING transaction step as a TSTEP of the sequencer that selects its code. -/
theorem tstep_txn_pending (hi : s.initialised = true) (ho : selOpc s = some opc) (hd : txnStep opc (setTick s) = .ok d)
    (hpending : d.status = .pending) : tstep s = .next (respondOk .pending d.slot d.sample 0#16 d.state) := by
  rw [tstep_eq hi, execStep_txn (s := setTick s) hi rfl ho hd, txnAnswer_unfinished (by simp [hpending])]

/-- A finishing transaction step as a TSTEP of the sequencer that selects its code. -/
theorem tstep_txn_finished (hi : s.initialised = true) (ho : selOpc s = some opc) (hd : txnStep opc (setTick s) = .ok d)
    (hf : d.status = .finished) :
    tstep s = .next (respondOk (seqAdvance d.state).1 d.slot d.sample 0#16 (seqAdvance d.state).2) := by
  rw [tstep_eq hi, execStep_txn (s := setTick s) hi rfl ho hd, txnAnswer_finished hf]

theorem calls_keep_selOpc {l : List Status} (hi : s.initialised = true) (ho : selOpc s = some opc)
    (h : calls (txnStep opc) n s = .ok (l, t)) : t.initialised = true ∧ selOpc t = some opc :=
  calls_keeps (P := fun u => u.initialised = true ∧ selOpc u = some opc)
    (fun _ _ hu hd => ⟨(txnStep_keeps_launch hd).initialised hu.1, (txnStep_selOpc hd).trans hu.2⟩) ⟨hi, ho⟩ h

/-- PENDING calls of the transaction that the sequencer selects are PENDING TSTEPs, each with its response. -/
theorem tsteps_of_calls (hi : s.initialised = true) (ho : selOpc s = some opc)
    (h : calls (txnStep opc) n s = .ok (List.replicate n .pending, t)) :
    ∃ rs, rs.map Response.status = List.replicate n .pending ∧
      tsteps n s = .next (withResponses (s.responses ++ rs) t) := by
  induction n generalizing t with
  | zero =>
    cases h
    exact ⟨[], rfl, by rw [List.append_nil]; rfl⟩
  | succ n ih =>
    rw [List.replicate_succ'] at h
    obtain ⟨u, d, hfirst, hd, hpending, rfl⟩ := calls_snoc_inv List.length_replicate h
    obtain ⟨rs, hsts, hrun⟩ := ih hfirst
    obtain ⟨hui, huo⟩ := calls_keep_selOpc hi ho hfirst
    have hlast := tstep_txn_pending (s := withResponses (s.responses ++ rs) u) hui huo
      (txnStep_withResponses hd _) hpending
    refine ⟨rs ++ [⟨.pending, .none, d.slot, d.sample, 0#16⟩], ?_, ?_⟩
    · rw [List.map_append, hsts, List.replicate_succ']
      rfl
    · rw [← List.append_assoc]
      exact tsteps_append hrun (tsteps_one hlast)

theorem seqAdvance_frame (u : State) : (seqAdvance u).2 = { u with
    seqState := (seqAdvance u).2.seqState, resetIssued := (seqAdvance u).2.resetIssued
    convTriggered := (seqAdvance u).2.convTriggered, tempAcc := (seqAdvance u).2.tempAcc
    tempOut := (seqAdvance u).2.tempOut } := by
  unfold seqAdvance
  split
  · rfl
  · split <;> rfl

theorem LaunchKept.trans (h : LaunchKept s t) (h' : LaunchKept t u) : LaunchKept s u :=
  ⟨h'.cfg.trans h.cfg, h'.refused.trans h.refused, h'.faulted.trans h.faulted, h'.pending.trans h.pending,
    h'.initialised ∘ h.initialised⟩

/-- A whole transaction that the sequencer selects, as a run of TSTEPs after which the sequencer has gone on. -/
theorem ran_transaction (hi : s.initialised = true) (ho : selOpc s = some opc)
    (h : calls (txnStep opc) (n + 1) s = .ok (List.replicate n .pending ++ [.finished], t))
    (htrace : t.busTrace = s.busTrace ++ events) (hsamples : t.samples = rest) :
    ∃ rs, Ran s (List.replicate n .pending ++ [(seqAdvance t).1]) events rest (withResponses rs (seqAdvance t).2) := by
  obtain ⟨u, d, hfirst, hd, hf, rfl⟩ := calls_snoc_inv List.length_replicate h
  obtain ⟨rs, hsts, hrun⟩ := tsteps_of_calls hi ho hfirst
  obtain ⟨hui, huo⟩ := calls_keep_selOpc hi ho hfirst
  have hlast := tstep_txn_finished (s := withResponses (s.responses ++ rs) u) hui huo (txnStep_withResponses hd _) hf
  rw [seqAdvance_withResponses] at hlast
  have hkept : LaunchKept s d.state := calls_keeps (P := LaunchKept s)
    (fun u _ hu hd => hu.trans (LaunchKept.trans (t := setTick u) ⟨rfl, rfl, rfl, rfl, id⟩ (txnStep_keeps_launch hd)))
    ⟨rfl, rfl, rfl, rfl, id⟩ h
  refine ⟨s.responses ++ rs ++ [⟨(seqAdvance d.state).1, .none, d.slot, d.sample, 0#16⟩], ?_⟩
  constructor
  case run =>
    rw [List.length_append, List.length_replicate]
    exact tsteps_append hrun (tsteps_one hlast)
  case trace => rw [seqAdvance_frame]; exact htrace
  case responses => exact ⟨rs ++ [_], List.append_assoc .., by rw [List.map_append, hsts]; rfl⟩
  case samples => rw [seqAdvance_frame]; exact hsamples
  case cfg => rw [seqAdvance_frame]; exact hkept.cfg
  case initialised => rw [seqAdvance_frame]; exact hkept.initialised hi

end Sys2Proof.Machine
end

section
/-! SUPPORT. The stages of a cycle as runs of TSTEPs: the reset pulse, the presence samples, and the transaction that each state
of the sequencer runs (R232 to R235). -/

namespace Sys2Proof.Machine

variable {s t : State} {opc : Byte} {d : SubDone} {q : SeqState} {issued triggered b : Bool} {lows n : Nat}
  {stream rest : List Bool}

/-- The control registers above the transaction: the sequencer's are `q`, `issued` and `triggered`, no reset pulse is on the
line, and the presence machine has counted `lows` low samples (R21, R25, R27, R28, R38, R39). -/
structure SeqAt (q : SeqState) (issued triggered : Bool) (lows : Nat) (s : State) : Prop where
  seq       : s.seqState = q
  issued    : s.resetIssued = issued
  triggered : s.convTriggered = triggered
  suspend   : s.suspend = false
  pd_state  : s.pdState = if lows = 0 then .waitLow else .countLow
  pd_count  : s.pdCount.toNat = lows

/-- Every control register, between the transactions (R21). -/
structure ControlAt (q : SeqState) (issued triggered : Bool) (lows : Nat) (s : State) : Prop extends
  SeqAt q issued triggered lows s, TxnAtStart s

theorem atRest_iff : atRest s ↔ ControlAt .masterReset false false 0 s := by
  constructor
  · intro h
    rw [← (h : resetControl s = s)]
    exact ⟨⟨rfl, rfl, rfl, rfl, rfl, rfl⟩, ⟨rfl, rfl, ⟨rfl, rfl, rfl⟩, rfl⟩⟩
  · rintro ⟨⟨hseq, hissued, htriggered, hsuspend, hstate, hcount⟩, ⟨hwriting, hmask, ⟨hphase, hbit, hbyte⟩, hsp⟩⟩
    have hzero : s.pdCount = 0#3 := BitVec.eq_of_toNat_eq hcount
    exact State.ext rfl hsuspend.symm hstate.symm hzero.symm hmask.symm hwriting.symm hphase.symm hbit.symm hbyte.symm
      rfl rfl rfl rfl rfl rfl hsp.symm hseq.symm hissued.symm htriggered.symm rfl rfl rfl rfl rfl rfl rfl rfl rfl rfl rfl

/-! ## The reset pulse and the presence samples -/

theorem ran_resetPulse (hi : s.initialised = true) (h : ControlAt .masterReset false triggered 0 s) :
    ∃ t, Ran s [.pending] [.rst] s.samples t ∧ ControlAt .masterReset true triggered 0 t := by
  have hstep := execStep_reset (s := setTick s) hi rfl h.seq
  rw [seqReset_pulse (s := setTick s) rfl h.issued] at hstep
  exact ⟨_, ran_one hi hstep rfl rfl rfl ⟨rfl, rfl, rfl, rfl, id⟩, { h with issued := rfl, suspend := rfl }⟩

/-- The state after an RD slot on the listed sample `b` (R127). -/
def sampled (b : Bool) (rest : List Bool) (s : State) : State :=
  { s with tickFlag := false, owDriveLow := false, samples := rest, busTrace := s.busTrace ++ [.rd b] }

/-- One presence sample as a STEP after the reset pulse (R232). -/
theorem execStep_presence (hi : s.initialised = true) (h : ControlAt .masterReset true triggered lows s) (hle : lows ≤ 5)
    (hs : s.samples = b :: rest) :
    exec .step (setTick s) = .next (presenceAnswer b (presenceUpdate b (sampled b rest s))) := by
  obtain ⟨hlevel, hrd⟩ := doneRd_listed hs
  have hstate : s.pdState = .waitLow ∨ s.pdState = .countLow := by
    rw [h.pd_state]
    split <;> simp
  have hcount : s.pdCount ≤ pdMaxLow := by
    rw [BitVec.le_def, h.pd_count]
    exact hle
  rw [execStep_reset (s := setTick s) hi rfl h.seq,
    seqReset_sample (s := setTick s) rfl h.issued (presenceFault_none (s := setTick s) hstate hcount), hlevel, hrd]
  rfl

theorem ran_leadingHigh (hi : s.initialised = true) (h : ControlAt .masterReset true triggered 0 s)
    (hs : s.samples = true :: rest) :
    ∃ t, Ran s [.pending] [.rd true] rest t ∧ ControlAt .masterReset true triggered 0 t := by
  have hstep := execStep_presence hi h (by omega) hs
  have hu : presenceUpdate true (sampled true rest s) = (.pending, sampled true rest s) := by
    simp [presenceUpdate, sampled, h.pd_state]
  rw [hu] at hstep
  exact ⟨_, ran_one hi hstep rfl rfl rfl ⟨rfl, rfl, rfl, rfl, id⟩, { h with }⟩

theorem ran_low (hi : s.initialised = true) (h : ControlAt .masterReset true triggered lows s) (hlt : lows < 5)
    (hs : s.samples = false :: rest) :
    ∃ t, Ran s [.pending] [.rd false] rest t ∧ ControlAt .masterReset true triggered (lows + 1) t := by
  have hstep := execStep_presence hi h hlt.le hs
  have hvalue {v : BitVec 3} (hv : s.pdCount = v) : v.toNat = lows := hv ▸ h.pd_count
  have hne : s.pdCount ≠ pdMaxLow := fun hv => hlt.ne' (hvalue hv)
  have hnowrap : s.pdCount ≠ 7#3 := fun hv => by
    have hseven : 7 = lows := hvalue hv
    omega
  have hcount : (s.pdCount + 1).toNat = lows + 1 := by rw [toNat_add_one hnowrap, h.pd_count]
  have hu : presenceUpdate false (sampled false rest s) =
      (.pending, { sampled false rest s with pdCount := s.pdCount + 1, pdState := .countLow }) := by
    simp [presenceUpdate, sampled, hne]
  rw [hu] at hstep
  exact ⟨_, ran_one hi hstep rfl rfl rfl ⟨rfl, rfl, rfl, rfl, id⟩, { h with pd_state := rfl, pd_count := hcount }⟩

theorem ran_highAfterLow (hi : s.initialised = true) (h : ControlAt .masterReset true triggered lows s) (hpos : 1 ≤ lows)
    (hle : lows ≤ 5) (hs : s.samples = true :: rest) :
    ∃ t, Ran s [.pending] [.rd true] rest t ∧ ControlAt .masterReadRom true triggered 0 t := by
  have hstep := execStep_presence hi h hle hs
  have hstate : s.pdState = .countLow := h.pd_state.trans (if_neg (by omega))
  have hu : presenceUpdate true (sampled true rest s) = (.finished, presenceReport (sampled true rest s)) := by
    simp [presenceUpdate, sampled, hstate]
  rw [hu] at hstep
  exact ⟨_, ran_one hi hstep rfl rfl rfl ⟨rfl, rfl, rfl, rfl, id⟩, { h with seq := rfl, pd_state := rfl, pd_count := rfl }⟩

theorem ran_leadingHighs (n : Nat) (hi : s.initialised = true) (h : ControlAt .masterReset true triggered 0 s)
    (hs : s.samples = List.replicate n true ++ rest) :
    ∃ t, Ran s (List.replicate n .pending) ((List.replicate n true).map .rd) rest t ∧
      ControlAt .masterReset true triggered 0 t := by
  induction n generalizing rest with
  | zero => exact ⟨s, ran_nil hi hs, h⟩
  | succ n ih =>
    rw [List.replicate_succ', List.append_assoc] at hs
    obtain ⟨t, hran, ht⟩ := ih hs
    obtain ⟨v, hlast, hv⟩ := ran_leadingHigh hran.initialised ht hran.samples
    rw [List.replicate_succ', List.replicate_succ', List.map_append]
    exact ⟨v, hran.trans hlast, hv⟩

theorem ran_lows (n : Nat) (hle : n ≤ 5) (hi : s.initialised = true) (h : ControlAt .masterReset true triggered 0 s)
    (hs : s.samples = List.replicate n false ++ rest) :
    ∃ t, Ran s (List.replicate n .pending) ((List.replicate n false).map .rd) rest t ∧
      ControlAt .masterReset true triggered n t := by
  induction n generalizing rest with
  | zero => exact ⟨s, ran_nil hi hs, h⟩
  | succ n ih =>
    rw [List.replicate_succ', List.append_assoc] at hs
    obtain ⟨t, hran, ht⟩ := ih (by omega) hs
    obtain ⟨v, hlast, hv⟩ := ran_low hran.initialised ht (by omega) hran.samples
    rw [List.replicate_succ', List.replicate_succ', List.map_append]
    exact ⟨v, hran.trans hlast, hv⟩

/-- The presence samples of R239: any number of leading highs, one to five lows, and a high. -/
theorem ran_presence {high low : Nat} (hpos : 1 ≤ low) (hle : low ≤ 5) (hi : s.initialised = true)
    (h : ControlAt .masterReset true triggered 0 s) (hs : s.samples = presenceBits high low ++ rest) :
    ∃ t, Ran s (List.replicate (high + low + 1) .pending) ((presenceBits high low).map .rd) rest t ∧
      ControlAt .masterReadRom true triggered 0 t := by
  rw [presenceBits, List.append_assoc, List.append_assoc] at hs
  obtain ⟨t, hran, ht⟩ := ran_leadingHighs high hi h hs
  obtain ⟨v, hran', hv⟩ := ran_lows low hle hran.initialised ht hran.samples
  obtain ⟨w, hlast, hw⟩ := ran_highAfterLow hran'.initialised hv hpos hle hran'.samples
  rw [presenceBits, List.map_append, List.map_append, List.replicate_add, List.replicate_add]
  exact ⟨w, (hran.trans hran').trans hlast, hw⟩

/-! ## The transactions -/

theorem txnStep_suspend (h : s.suspend = false) (hd : txnStep opc s = .ok d) : d.state.suspend = false := by
  obtain ⟨-, ⟨-, -, rfl⟩ | ⟨-, -, rfl⟩ | ⟨-, -, -, -, rfl⟩ | ⟨-, -, -, -, -, rfl⟩ | ⟨-, -, -, -, -, rfl⟩ |
    ⟨-, -, -, -, rfl⟩⟩ := txnStep_inv hd
  · dsimp only
    rw [doneWrite_eq]
    split <;> exact h
  · dsimp only
    rw [readyUpdate_frame]
    exact h
  · dsimp only
    rw [romUpdate_frame]
    split <;> exact h
  · exact h
  · rfl
  · exact h

theorem txnStep_keeps_seqAt (h : SeqAt q issued triggered lows s) (hd : txnStep opc s = .ok d) :
    SeqAt q issued triggered lows d.state := by
  have hsuspend := txnStep_suspend h.suspend hd
  rw [txnStep_frame hd]
  exact { h with suspend := hsuspend }

theorem calls_keep_seqAt {l : List Status} (h : SeqAt q issued triggered lows s)
    (hcalls : calls (txnStep opc) n s = .ok (l, t)) : SeqAt q issued triggered lows t :=
  calls_keeps (fun u _ hu hd => txnStep_keeps_seqAt (s := setTick u) { hu with } hd) h hcalls

/-- The READ ROM transaction in MASTER_READ_ROM (R233). -/
theorem ran_readRom (hw : s.cfg.wellFormed = true) (hi : s.initialised = true)
    (h : ControlAt .masterReadRom true triggered 0 s) (hlen : stream.length = 64) (hs : s.samples = stream ++ rest) :
    ∃ t, Ran s (List.replicate 72 .pending) (codeSlots s.cfg.opcReadRom ++ stream.map .rd) rest t ∧
      ControlAt .masterTxFnCommand true triggered 0 t ∧ t.familyOut.toNat = streamValue (stream.take 8) := by
  obtain ⟨hphase, hbit, hbyte⟩ := h.rom
  obtain ⟨hreadRom, -, -⟩ := transactionLengths s hw h.writing h.mask hphase hbit hbyte h.sp
  obtain ⟨t, hcalls, htrace, hwr, hm, hphase, hbit, hbyte, hsp, hsamples⟩ := hreadRom stream rest hlen hs
  have hseq := calls_keep_seqAt h.toSeqAt hcalls
  have hfamily := calls_readRom_familyOut hw h.toTxnAtStart hlen hs hcalls
  rw [List.append_assoc] at htrace
  obtain ⟨rs, hran⟩ := ran_transaction (n := 71) hi (selOpc_of_readRom h.seq) hcalls htrace hsamples
  rw [seqAdvance_readRom hseq.seq] at hran
  exact ⟨_, hran, { hseq with seq := rfl, writing := hwr, mask := hm, rom := ⟨hphase, hbit, hbyte⟩, sp := hsp }, hfamily⟩

/-- The CONVERT T transaction in MASTER_TX_FN_COMMAND before the trigger (R234). -/
theorem ran_trigger {k : Nat} (hw : s.cfg.wellFormed = true) (hi : s.initialised = true)
    (h : ControlAt .masterTxFnCommand true false 0 s) (hk : 1 ≤ k) (hs : s.samples = readyBits k ++ rest) :
    ∃ t, Ran s (List.replicate (8 + k) .pending) (codeSlots s.cfg.opcConvertT ++ (readyBits k).map .rd) rest t ∧
      ControlAt .masterReset false true 0 t := by
  obtain ⟨hphase, hbit, hbyte⟩ := h.rom
  obtain ⟨-, hconvertT, -⟩ := transactionLengths s hw h.writing h.mask hphase hbit hbyte h.sp
  obtain ⟨t, hcalls, htrace, hwr, hm, hphase, hbit, hbyte, hsp, hsamples⟩ := hconvertT k rest hk hs
  have hseq := calls_keep_seqAt h.toSeqAt hcalls
  have hcount : 8 + k = 7 + k + 1 := by omega
  rw [hcount] at hcalls ⊢
  rw [List.append_assoc] at htrace
  obtain ⟨rs, hran⟩ := ran_transaction hi (selOpc_of_trigger h.seq h.triggered) hcalls htrace hsamples
  rw [seqAdvance_trigger hseq.seq hseq.triggered, ← List.replicate_succ'] at hran
  exact ⟨_, hran, { hseq with
    seq := rfl, issued := rfl, triggered := rfl
    writing := hwr, mask := hm, rom := ⟨hphase, hbit, hbyte⟩, sp := hsp }⟩

/-- Only READ ROM publishes a family code (R184). -/
theorem txnStep_familyOut (hne : opc ≠ s.cfg.opcReadRom) (hd : txnStep opc s = .ok d) :
    d.state.familyOut = s.familyOut := by
  obtain hkept | ⟨ho, -⟩ := txnStep_rom_writer hd
  · exact hkept.out
  · exact absurd ho hne

theorem calls_keep_familyOut {l : List Status} (hne : opc ≠ s.cfg.opcReadRom)
    (h : calls (txnStep opc) n s = .ok (l, t)) : t.familyOut = s.familyOut :=
  (calls_keeps (P := fun u => u.cfg = s.cfg ∧ u.familyOut = s.familyOut)
    (fun u _ hu hd => ⟨(txnStep_keeps_launch hd).cfg.trans hu.1,
      (txnStep_familyOut (s := setTick u) (hu.1 ▸ hne) hd).trans hu.2⟩) ⟨rfl, rfl⟩ h).2

/-- The READ SCRATCHPAD transaction in MASTER_TX_FN_COMMAND after the trigger, which ends the round (R235). -/
theorem ran_readBack (hw : s.cfg.wellFormed = true) (hi : s.initialised = true)
    (h : ControlAt .masterTxFnCommand true true 0 s) (hlen : stream.length = 15) (hs : s.samples = stream ++ rest) :
    ∃ t, Ran s (List.replicate 23 .pending ++ [.finished])
        (codeSlots s.cfg.opcReadScratchpad ++ stream.map .rd ++ [.rst]) rest t ∧
      ControlAt .masterReset false false 0 t ∧ t.tempOut.toNat = streamValue stream / 16 ∧
      t.familyOut = s.familyOut := by
  obtain ⟨-, hrs, -⟩ := Config.wellFormed_ne hw
  obtain ⟨hphase, hbit, hbyte⟩ := h.rom
  obtain ⟨-, -, hscratchpad⟩ := transactionLengths s hw h.writing h.mask hphase hbit hbyte h.sp
  obtain ⟨t, hcalls, htrace, hwr, hm, hphase, hbit, hbyte, hsp, hsamples⟩ := hscratchpad stream rest hlen hs
  have hseq := calls_keep_seqAt h.toSeqAt hcalls
  have htemp := calls_readScratchpad_scaleTemp hw h.toTxnAtStart hlen hs hcalls
  have hfamily := calls_keep_familyOut hrs.symm hcalls
  rw [List.append_assoc, List.append_assoc] at htrace
  obtain ⟨rs, hran⟩ := ran_transaction (n := 23) hi (selOpc_of_readBack h.seq h.triggered) hcalls htrace hsamples
  rw [seqAdvance_readBack hseq.seq hseq.triggered] at hran
  rw [List.append_assoc]
  exact ⟨_, hran, { hseq with
    seq := rfl, issued := rfl, triggered := rfl
    writing := hwr, mask := hm, rom := ⟨hphase, hbit, hbyte⟩, sp := hsp }, htemp, hfamily⟩

end Sys2Proof.Machine
end

section
/-! SUPPORT. The round: two cycles that begin alike, the first ending with the conversion trigger and the second with the
read-back (R239). -/

namespace Sys2Proof.Machine

variable {s : State} {triggered : Bool} {high low : Nat} {rom rest : List Bool}

/-- The part that both cycles of a round begin with: the reset pulse, the presence samples and the ROM read. -/
theorem ran_cycleStart (hw : s.cfg.wellFormed = true) (hi : s.initialised = true)
    (h : ControlAt .masterReset false triggered 0 s) (hpos : 1 ≤ low) (hle : low ≤ 5) (hlen : rom.length = 64)
    (hs : s.samples = presenceBits high low ++ rom ++ rest) :
    ∃ t, Ran s (List.replicate (1 + (high + low + 1) + 72) .pending)
        ([.rst] ++ (presenceBits high low).map .rd ++ (codeSlots s.cfg.opcReadRom ++ rom.map .rd)) rest t ∧
      ControlAt .masterTxFnCommand true triggered 0 t ∧ t.familyOut.toNat = streamValue (rom.take 8) := by
  obtain ⟨t, hpulse, ht⟩ := ran_resetPulse hi h
  obtain ⟨u, hpresence, hu⟩ := ran_presence hpos hle hpulse.initialised ht
    (hpulse.samples.trans (hs.trans (List.append_assoc ..)))
  have hcfg : u.cfg = s.cfg := hpresence.cfg.trans hpulse.cfg
  obtain ⟨v, hread, hv, hfamily⟩ := ran_readRom (hcfg ▸ hw) hpresence.initialised hu hlen hpresence.samples
  have hran := (hpulse.trans hpresence).trans hread
  rw [hcfg] at hran
  rw [List.replicate_add, List.replicate_add]
  exact ⟨v, hran, hv, hfamily⟩

/-- Settles O60: the two cycles, one after the other. -/
theorem roundTrace : Obligations.RoundTrace := by
  intro s h1 m1 k h2 m2 rom1 rom2 raw rest hw hi hrest hpos1 hle1 hpos2 hle2 hk hlen1 hlen2 hlen hs n
  have hs1 : s.samples = presenceBits h1 m1 ++ rom1 ++ (readyBits k ++ (presenceBits h2 m2 ++ rom2 ++ (raw ++ rest))) := by
    simpa only [List.append_assoc] using hs
  obtain ⟨t1, hrun1, ht1, -⟩ := ran_cycleStart hw hi (atRest_iff.mp hrest) hpos1 hle1 hlen1 hs1
  have hw1 : t1.cfg.wellFormed = true := hrun1.cfg ▸ hw
  obtain ⟨t2, hrun2, ht2⟩ := ran_trigger hw1 hrun1.initialised ht1 hk hrun1.samples
  have hw2 : t2.cfg.wellFormed = true := hrun2.cfg ▸ hw1
  obtain ⟨t3, hrun3, ht3, hfamily⟩ := ran_cycleStart hw2 hrun2.initialised ht2 hpos2 hle2 hlen2 hrun2.samples
  have hw3 : t3.cfg.wellFormed = true := hrun3.cfg ▸ hw2
  obtain ⟨t, hrun4, ht, htemp, hkept⟩ := ran_readBack hw3 hrun3.initialised ht3 hlen hrun3.samples
  have hran := ((hrun1.trans hrun2).trans hrun3).trans hrun4
  have hpending : n - 1 = 1 + (h1 + m1 + 1) + 72 + (8 + k) + (1 + (h2 + m2 + 1) + 72) + 23 := by omega
  have hlength : n - 1 + 1 = n := by omega
  rw [hrun3.cfg, hrun2.cfg, hrun1.cfg, ← List.append_assoc, ← List.replicate_add, ← List.replicate_add,
    ← List.replicate_add, ← hpending] at hran
  have hrun := hran.run
  rw [List.length_append, List.length_replicate, List.length_singleton, hlength] at hrun
  obtain ⟨rs, hresp, hsts⟩ := hran.responses
  refine ⟨t, rs, hrun, ?_, hresp, hsts, atRest_iff.mpr ht, htemp, hkept ▸ hfamily, hran.samples⟩
  simpa only [List.append_assoc] using hran.trace

end Sys2Proof.Machine
end

section
/-! SUPPORT. A step on an arrival that holds neither a TICK nor a command, and with no input left (R277). -/

namespace Sys2Proof.Machine

variable {s u : State}

theorem step_quiet (hw : s.cfg.wellFormed = true) (hr : s.refused = false) (hf : s.faulted = false)
    (hq : takeInput s = .quiet u) : step s = .next u := by
  rw [step_launched hw hr hf, hq]

theorem takeInput_nil (hp : s.pending = []) : takeInput s = .quiet s := by
  rw [takeInput, hp]

/-- Settles O9: an arrival without TICK and without command is taken as a strobe at 0. -/
theorem nothingPendingKeepsState : Obligations.NothingPendingKeepsState := by
  intro s hw hr hf
  refine ⟨fun hp => step_quiet hw hr hf (takeInput_nil hp), fun rest hp => ?_⟩
  have hstrobe : takeInput s = takeWord (.tick1 0#1) { s with pending := rest } := takeInput_inputOf hp
  exact step_quiet hw hr hf (hstrobe.trans (takeWord_of_error (e := .noPulse) rfl))

end Sys2Proof.Machine
end

section
/-! SUPPORT. The response of a STEP by its cause, and the restart of the cycle after a presence timeout (R260 to R264). -/

namespace Sys2Proof.Machine

variable {s t : State}

theorem seqAdvance_noError (u : State) : (seqAdvance u).1 ≠ .error := by
  unfold seqAdvance
  split
  · exact nofun
  · split <;> exact nofun

/-- A STEP that runs a transaction step ends without an error, whatever the status of that step. -/
theorem txnAnswer_noError (d : SubDone) :
    ∃ r, (txnAnswer d).responses = d.state.responses ++ [r] ∧ r.status ≠ .error ∧ r.cause = .none := by
  by_cases hf : d.status = .finished
  · rw [txnAnswer_finished hf, seqAdvance_frame]
    exact ⟨_, rfl, seqAdvance_noError d.state, rfl⟩
  · rw [txnAnswer_unfinished hf]
    exact ⟨_, rfl, nofun, rfl⟩

/-- A STEP in MASTER_RESET reports a presence timeout, or ends without an error (R232, R261). -/
theorem seqReset_answer (hr : seqReset s = .ok t) :
    t = raiseError .presenceTimeout .rd false (presenceReport (doneRd s)) ∨
    ∃ r, t.responses = s.responses ++ [r] ∧ r.status ≠ .error ∧ r.cause = .none := by
  obtain ⟨-, ⟨-, rfl⟩ | ⟨-, -, -, -, rfl⟩ | ⟨-, -, -, -, rfl⟩ | ⟨-, -, -, -, rfl⟩ | ⟨-, -, -, -, rfl⟩⟩ := seqReset_inv hr
  · exact .inr ⟨_, rfl, nofun, rfl⟩
  · exact .inl rfl
  · exact .inr ⟨_, rfl, nofun, rfl⟩
  · exact .inr ⟨_, rfl, nofun, rfl⟩
  · exact .inr ⟨_, rfl, nofun, rfl⟩

/-- The three ways a STEP answers: it recovers from the invalid state, it reports a presence timeout, or it ends without an
error (R264). -/
theorem execStep_answer (h : exec .step s = .next t) :
    (s.seqState = .invalid ∧ t = raiseError .invalidState .none false s) ∨
    (s.seqState = .masterReset ∧ t = raiseError .presenceTimeout .rd false (presenceReport (doneRd s))) ∨
    (s.seqState ≠ .invalid ∧ ∃ r, t.responses = s.responses ++ [r] ∧ r.status ≠ .error ∧ r.cause = .none) := by
  obtain hinvalid | ⟨hq, -, rfl⟩ | ⟨-, hq, hr⟩ | ⟨-, opc, d, ho, hd, rfl⟩ := execStep_cases h
  · exact .inl hinvalid
  · exact .inr (.inr ⟨hq, _, rfl, nofun, rfl⟩)
  · exact .inr ((seqReset_answer hr).imp (⟨hq, ·⟩) (⟨by simp [hq], ·⟩))
  · exact .inr (.inr ⟨selOpc_not_invalid ho, txnStep_responses hd ▸ txnAnswer_noError d⟩)

/-- Settles O50, by the three ways a STEP answers; the other host commands and TICK have one way each. -/
theorem errorSources : Obligations.ErrorSources := by
  refine ⟨fun s t h => ?_, fun i hi s t h => ?_, fun s t h => ?_⟩
  · obtain ⟨hq, rfl⟩ | ⟨hq, rfl⟩ | ⟨hq, r, hresp, hst, hc⟩ := execStep_answer h
    · exact ⟨_, rfl, iff_of_true rfl nofun, nofun, iff_of_true rfl hq, nofun⟩
    · exact ⟨_, rfl, iff_of_true rfl nofun, nofun, iff_of_false nofun (by simp [hq]), fun _ => hq⟩
    · exact ⟨r, hresp, by simp [hst, hc], by simp [hc], by simp [hc, hq], by simp [hc]⟩
  · simp only [List.mem_cons, List.not_mem_nil, or_false] at hi
    obtain rfl | rfl | rfl := hi
    · rw [execInit_inv h]
      exact ⟨_, rfl, rfl, rfl, rfl⟩
    · rw [(execGetTemp_inv h).2]
      exact ⟨_, rfl, rfl, rfl, rfl⟩
    · rw [(execGetFamily_inv h).2]
      exact ⟨_, rfl, rfl, rfl, rfl⟩
  · rw [(execTick_inv h).2, setTick_responses]

/-- At the start of a cycle a TSTEP performs the reset pulse (R106, R232). -/
theorem tstep_resetPulse (hi : s.initialised = true) (hq : s.seqState = .masterReset) (hr : s.resetIssued = false) :
    tstep s = .next (respondOk .pending .rst false 0#16 (markResetIssued (doneRst (setTick s)))) := by
  rw [tstep_eq hi, execStep_reset (s := setTick s) hi rfl hq, seqReset_pulse (s := setTick s) rfl hr, outcomeOf]

/-- Only the presence timeout of MASTER_RESET answers with that cause. -/
theorem execStep_presenceTimeout {r : Response} (h : exec .step s = .next t) (hresp : t.responses = s.responses ++ [r])
    (hc : r.cause = .presenceTimeout) :
    r = ⟨.error, .presenceTimeout, .rd, false, 0#16⟩ ∧ s.seqState = .masterReset ∧
      t = raiseError .presenceTimeout .rd false (presenceReport (doneRd s)) := by
  have hlast {r' : Response} (h' : t.responses = s.responses ++ [r']) : r = r' :=
    List.singleton_inj.mp (List.append_cancel_left (hresp.symm.trans h'))
  obtain ⟨-, rfl⟩ | ⟨hq, rfl⟩ | ⟨-, r', hr', -, hc'⟩ := execStep_answer h
  · cases hlast rfl
    cases hc
  · exact ⟨hlast rfl, hq, rfl⟩
  · cases hlast hr'
    cases hc.symm.trans hc'

/-- Settles O53: the recovery of the cause has put the cycle back to its start, where a TSTEP performs the reset pulse. -/
theorem presenceTimeoutRestarts : Obligations.PresenceTimeoutRestarts := by
  intro s t r h hresp hc
  obtain ⟨hi, -⟩ := execStep_inv h
  obtain ⟨rfl, hq, rfl⟩ := execStep_presenceTimeout h hresp hc
  exact ⟨rfl, rfl, hq, rfl, rfl, rfl, rfl, _, tstep_resetPulse hi hq rfl, rfl, rfl, rfl⟩

end Sys2Proof.Machine
end

section
/-! SUPPORT. INIT from every state, every other event before the first INIT, and what no event changes: the mark `initialised`
once set, and the configuration (R290, R291, R306). -/

namespace Sys2Proof.Machine

variable {s t u : State} {i : Instr}

/-- Settles O12: the control part and the data part of the reset together write every register. -/
theorem initResetsEveryRegister : Obligations.InitResetsEveryRegister := fun _ => rfl

theorem whenInitialised_off {k : Host.Outcome State Fault Refusal} (h : s.initialised = false) :
    whenInitialised s k = .refused .notInitialised := by
  simp [whenInitialised, h]

/-- Every instruction but INIT is guarded by the mark `initialised` (R291). -/
theorem exec_uninitialised (hne : i ≠ .init) (hi : s.initialised = false) : exec i s = .refused .notInitialised := by
  cases i with
  | init => exact absurd rfl hne
  | step | getTemp | getFamily | tick | w0 | w1 | rd | rst | readRom | matchRom | skipRom | alarmSearch | convertT
  | writeScratchpad | readScratchpad | copyScratchpad | readPowerSupply => exact whenInitialised_off hi

/-- INIT sets the mark; any other event completes only where it is set, and keeps it. -/
theorem exec_initialised (he : exec i s = .next t) : t.initialised = true := by
  by_cases hinit : i = .init
  · subst hinit
    rw [execInit_inv he]
    rfl
  · cases hi : s.initialised with
    | false => cases (exec_uninitialised hinit hi).symm.trans he
    | true => exact (exec_keeps_launch he).initialised hi

/-- Settles O13: the guard refuses, and the run records a refusal. -/
theorem eventsBeforeInitRefused : Obligations.EventsBeforeInitRefused := by
  refine ⟨fun i s hne hi => ?_, fun _ _ _ => exec_initialised⟩
  have hrefused := exec_uninitialised hne hi
  exact ⟨hrefused, by rw [hrefused, recordOutcome]⟩

/-- A step changes the codes neither by taking its input nor by processing it. -/
theorem step_cfg (hs : step s = .next t) : t.cfg = s.cfg := by
  obtain ⟨-, -, -, hq | ⟨i, u, hu, he⟩⟩ := step_inv hs
  · rw [takeInput_quiet hq]
  · rw [(exec_keeps_launch he).cfg, takeInput_run hu]

/-- Settles O15. -/
theorem configurationNeverChanges : Obligations.ConfigurationNeverChanges :=
  ⟨fun _ _ _ he => (exec_keeps_launch he).cfg, fun _ _ => step_cfg⟩

end Sys2Proof.Machine
end

section
/-! SUPPORT. A launched machine takes a port arrival as an event or as nothing, and every event of the ports completes (R294). -/

namespace Sys2Proof.Machine

variable {s u : State} {i : Instr} {w : CodeWord}

/-- A word of the ports is an event, or the strobe at 0, which is none: no port word is refused (R90, R93). -/
theorem takeWord_port (hw : usesTick w = false) : takeWord w s = .quiet s ∨ ∃ i, takeWord w s = .run i s := by
  cases w with
  | hostCmd2 cmd => exact .inr ⟨_, takeWord_of_decode rfl⟩
  | tick1 strobe =>
    obtain rfl | rfl := BitVec.eq_zero_or_eq_one strobe
    · exact .inl (takeWord_of_error (e := .noPulse) rfl)
    · exact .inr ⟨.tick, takeWord_of_decode rfl⟩
  | slotOp3 code => cases hw
  | owCmd8 opc => cases hw

/-- Taking from a script of port arrivals never stops. -/
theorem takeInput_port_completes (hp : s.pending.all atPorts = true) :
    (∃ u, takeInput s = .quiet u) ∨ ∃ i u, takeInput s = .run i u := by
  obtain hq | ⟨w, v, hv, hw, -⟩ := takeInput_port hp
  · exact .inl ⟨s, hq⟩
  · rw [hv]
    exact (takeWord_port hw).imp (⟨v, ·⟩) fun ⟨i, hi⟩ => ⟨i, v, hi⟩

/-- The events of the ports need no pending tick to complete. -/
theorem exec_port_completes (h : RegsLegal s) (hi : s.initialised = true) (hport : i ∈ portInstrs) :
    ∃ t, exec i s = .next t := by
  refine legalStatesComplete i s h hi fun hprim => ?_
  have hdisjoint : ∀ j ∈ portInstrs, j ∉ [Instr.w0, Instr.w1, Instr.rd, Instr.rst] := by decide
  exact absurd hprim (hdisjoint i hport)

theorem step_run (hw : s.cfg.wellFormed = true) (hr : s.refused = false) (hf : s.faulted = false)
    (hu : takeInput s = .run i u) : step s = exec i u := by
  rw [step_launched hw hr hf, hu]

/-- Settles O44: the input taken leaves the registers legal, so the event it gives completes. -/
theorem launchedMachineNeverStops : Obligations.LaunchedMachineNeverStops := by
  intro s h ⟨hw, hi, hr, hf, hp⟩
  obtain ⟨u, hq⟩ | ⟨i, u, hu⟩ := takeInput_port_completes hp
  · exact ⟨u, step_quiet hw hr hf hq⟩
  · have hut := takeInput_run hu
    have hlegal : RegsLegal u := (inv_taken h hut).regs
    have hinit : u.initialised = true := by rw [hut, hi]
    rw [step_run hw hr hf hu]
    exact exec_port_completes hlegal hinit (takeInput_run_port hp hu).1

end Sys2Proof.Machine
end

section
/-! SUPPORT. The STEP that ends a round, and the reset pulse of the next (R187, R235, R307). -/

namespace Sys2Proof.Machine

variable {s t : State}

/-- The state in which the READ SCRATCHPAD transaction of `s` has finished, with its terminating reset (R187, R211). -/
def readBackDone (s : State) : State := { (spTerminate (doneRst s)).2 with txnState := .writing }

/-- The READ SCRATCHPAD transaction ends a round with its terminating reset (R187, R235). -/
theorem execStep_roundEnd (hw : s.cfg.wellFormed = true) (hi : s.initialised = true) (ht : s.tickFlag = true)
    (hq : s.seqState = .masterTxFnCommand) (hc : s.convTriggered = true) (hr : s.txnState = .reading)
    (hsp : s.spIdx = spBits) :
    exec .step s = .next (respondOk .finished .rst false 0#16 (publishTemp (readBackDone s))) := by
  obtain ⟨-, hrs, hcs⟩ := Config.wellFormed_ne hw
  have hd : txnStep s.cfg.opcReadScratchpad s = .ok ⟨readBackDone s, .finished, .rst, false⟩ :=
    txnStep_terminate ht hr hcs.symm hrs.symm rfl hsp
  have hadv : seqAdvance (readBackDone s) = (.finished, publishTemp (readBackDone s)) := seqAdvance_readBack hq hc
  rw [execStep_txn hi ht (selOpc_of_readBack hq hc) hd, txnAnswer_finished rfl, hadv]

/-- The only STEP that answers FINISHED is the one that ends a round (R237). -/
theorem execStep_finished {r : Response} (hw : s.cfg.wellFormed = true) (h : exec .step s = .next t)
    (hresp : t.responses = s.responses ++ [r]) (hf : r.status = .finished) :
    t = respondOk .finished .rst false 0#16 (publishTemp (readBackDone s)) := by
  obtain ⟨hi, -⟩ := execStep_inv h
  obtain ⟨r', hresp', hfin, -⟩ := stepStatusLaw s t hw h
  obtain rfl : r = r' := List.singleton_inj.mp (List.append_cancel_left (hresp.symm.trans hresp'))
  obtain ⟨ht, hq, hc, hr, hsp⟩ := hfin.mp hf
  exact Host.Outcome.next.inj (h.symm.trans (execStep_roundEnd hw hi ht hq hc hr hsp))

/-- Settles O52: the round's end leaves the sequencer at the start of a cycle, where a TSTEP performs the reset pulse. -/
theorem backToBackResets : Obligations.BackToBackResets := by
  intro s t r hw h hresp hf
  obtain ⟨hi, -⟩ := execStep_inv h
  obtain rfl := execStep_finished hw h hresp hf
  exact ⟨rfl, _, tstep_resetPulse hi rfl rfl, rfl⟩

end Sys2Proof.Machine
end
